-- ==== Sys2Proof/Word.lean ====
section
/-! DEFINITION. The number types of the LK6420 and the names that several blocks share. -/

namespace Sys2Proof

/-- One byte of a frame, on the system link or on the module chain. -/
abbrev Byte := BitVec 8

/-- A slot number, 0 to 23. -/
abbrev Slot := Fin 24

/-- A requester number, 0 to 7. -/
abbrev Requester := Fin 8

/-- The millisecond time base and every stamp taken from it (R166). -/
abbrev Stamp := BitVec 32

/-- A priority level; `urgent` (level 1) is the higher. -/
inductive Level where
  | normal
  | urgent
deriving DecidableEq, Repr

/-- What ends the present cold-reset hold, and so the cause READY will carry (R171). -/
inductive ResetCause where
  | powerOn
  | resetPin
deriving DecidableEq, Repr

end Sys2Proof
end

