-- ==== Sys2Proof/Config.lean ====
section
/-! DEFINITION. The fixed capacities of the hub (scope file, 'Principal capacities') and the model's one free value. -/

namespace Sys2Proof

/-- The record pool (R70). -/
abbrev Config.poolSize : Nat := 96

/-- The ingress buffer (R177). -/
abbrev Config.ingressSize : Nat := 8

/-- The notice queue (R167). -/
abbrev Config.noticeQueueSize : Nat := 32

/-- FREE VALUE (log entry 1). READ FAULT on an empty fault record sends four stamp bytes, and R186 states no value for
them: nothing constrains them. It is applied to a counter of State that each such read advances. -/
opaque Config.emptyFaultStamp : Nat → Stamp

end Sys2Proof
end

