-- ==== Sys2Proof/Syntax.lean ====
section
/-! DEFINITION. The commands of the block: one constructor per row of spec/opcode_table.json. -/

namespace Sys2Proof

/-- A command: one event of the table. The twenty-three commands that take a request frame (`read` to `restart`) have no
operand of their own, because the frame they take is the oldest one in ingress (R178). -/
inductive Instr where
  /-- COLD_RESET (R190): RESET is asserted, or power-on begins; the operand says which, since READY will report it. -/
  | coldReset (cause : ResetCause)
  /-- START (R191): RESET is released, or power-on ends. -/
  | start
  /-- TIME_BASE_ADVANCE (R166): one millisecond of the time base has passed. -/
  | timeBaseAdvance
  /-- SUPPLY_LOW_CHANGE (R31): the level of the SUPPLY_LOW pin becomes `asserted`. -/
  | supplyLowChange (asserted : Bool)
  /-- SUPPLY_LOW_DEBOUNCE_EXPIRY (R31). -/
  | supplyLowDebounceExpiry
  /-- ATN_CHANGE (R118): the level of the ATN line of `slot` becomes `active`. -/
  | atnChange (slot : Slot) (active : Bool)
  /-- ATTENTION_HOLDOFF_EXPIRY (R120). -/
  | attentionHoldoffExpiry (slot : Slot)
  /-- FRAME_ARRIVAL (R176): reception of an inbound frame ends; `bytes` are the bytes on the line after the opening
  delimiter, up to and with the one at which the reception ends. -/
  | frameArrival (bytes : List Byte)
  /-- READ (R71): the oldest frame of ingress, a READ request, is taken. -/
  | read
  /-- WRITE (R71): a WRITE request is taken. -/
  | write
  /-- WRITE_POSTED (R89): a WRITE POSTED request is taken. -/
  | writePosted
  /-- READ_ENTRY (R148). -/
  | readEntry
  /-- WRITE_ENTRY_UNIT (R134). -/
  | writeEntryUnit
  /-- WRITE_ENTRY_REQUESTER (R138). -/
  | writeEntryRequester
  /-- WRITE_ENTRY_PROFILE (R141). -/
  | writeEntryProfile
  /-- WRITE_ENTRY_CHAIN (R149). -/
  | writeEntryChain
  /-- WRITE_ENTRY_BUDGET (R150). -/
  | writeEntryBudget
  /-- FIND_UNIT (R151). -/
  | findUnit
  /-- READ_SLOT (R152). -/
  | readSlot
  /-- READ_QUEUE (R153). -/
  | readQueue
  /-- READ_BUDGET (R154). -/
  | readBudget
  /-- SLOT_WAKE (R155). -/
  | slotWake
  /-- SLOT_REST (R156). -/
  | slotRest
  /-- SLOT_OFF (R157). -/
  | slotOff
  /-- PIN (R158). -/
  | pin
  /-- UNPIN (R158). -/
  | unpin
  /-- SLOT_CLEAR (R159). -/
  | slotClear
  /-- READ_FAULT (R160). -/
  | readFault
  /-- CLEAR_FAULT (R160). -/
  | clearFault
  /-- RESTART (R161). -/
  | restart
  /-- RESTART_COMPLETION (R163). -/
  | restartCompletion
  /-- EVALUATION (R40): the Budget Arbiter takes the evaluation that is due. -/
  | evaluation
  /-- SELECTION_PASS (R56): the Budget Arbiter takes the selection pass that is due. -/
  | selectionPass
  /-- STEP_COUNTDOWN_EXPIRY (R6): the power-up delay, wake delay or poll interval of `slot` expires. -/
  | stepCountdownExpiry (slot : Slot)
  /-- LIMIT_COUNTDOWN_EXPIRY (R8): the power-up or wake timeout of `slot` expires. -/
  | limitCountdownExpiry (slot : Slot)
  /-- IDLE_HOLD_EXPIRY (R12). -/
  | idleHoldExpiry (slot : Slot)
  /-- LIFETIME_EXPIRY (R85): the lifetime of the live record of `requester` with `tag` expires (one record at most has
  the pair, R73). -/
  | lifetimeExpiry (requester : Requester) (tag : Byte)
  /-- CHAIN_SELECTION (R108): the Chain Controller takes the selection that is due. -/
  | chainSelection
  /-- COMMAND_SENT (R97): the last byte of the command frame has been sent. -/
  | commandSent
  /-- REPLY_START (R97): a reply begins. -/
  | replyStart
  /-- RESPONSE_TIMEOUT_EXPIRY (R97). -/
  | responseTimeoutExpiry
  /-- REPLY_END (R98): the reply has been received to its end, or to a length byte above 32; `bytes` are all its bytes. -/
  | replyEnd (bytes : List Byte)
  /-- OUTPUT_CHOICE (R181). -/
  | outputChoice
  /-- TRANSMISSION_END (R182): the last byte of the outbound frame has been sent. -/
  | transmissionEnd
  /-- FRAME_RECEPTION_START (R176): an opening delimiter is received. -/
  | frameReceptionStart
  /-- REPLY_BYTE_RECEIVED (R97): a byte of the reply before its last one is received. -/
  | replyByteReceived
deriving DecidableEq, Repr

end Sys2Proof
end

