-- ==== Sys2Proof/WellFormed.lean ====
section
/-! DEFINITION. Which commands spell an event that can occur on the hub's lines. Only the two commands that carry the bytes
of a reception can be ill-formed; the meanings are total and do not depend on this check. -/

namespace Sys2Proof

/-- The bytes after an opening delimiter, up to the end of one reception (R176, R184): there is at least one; no byte
before the last is a delimiter, since a delimiter ends the reception; and no more arrive than a body of 45 escaped bytes
and the byte that ends it. -/
def receptionBytesOk (bytes : List Byte) : Bool :=
  0 < bytes.length && bytes.length ≤ 92 && bytes.dropLast.all (fun b => b != 0xA5 && b != 0x5A)

/-- The bytes of one reply (R98, R189): it ends at a length byte above 32, or at the check byte that follows exactly as many
data bytes as the length byte says. -/
def replyBytesOk (bytes : List Byte) : Bool :=
  match bytes with
  | _ :: _ :: len :: rest => if 32 < len.toNat then rest.isEmpty else rest.length == len.toNat + 1
  | _ => false

/-- A command whose operands can occur. -/
def Instr.wellFormed : Instr → Bool
  | .frameArrival bytes => receptionBytesOk bytes
  | .replyEnd bytes => replyBytesOk bytes
  | .coldReset _ => true
  | .start => true
  | .timeBaseAdvance => true
  | .supplyLowChange _ => true
  | .supplyLowDebounceExpiry => true
  | .atnChange _ _ => true
  | .attentionHoldoffExpiry _ => true
  | .read => true
  | .write => true
  | .writePosted => true
  | .readEntry => true
  | .writeEntryUnit => true
  | .writeEntryRequester => true
  | .writeEntryProfile => true
  | .writeEntryChain => true
  | .writeEntryBudget => true
  | .findUnit => true
  | .readSlot => true
  | .readQueue => true
  | .readBudget => true
  | .slotWake => true
  | .slotRest => true
  | .slotOff => true
  | .pin => true
  | .unpin => true
  | .slotClear => true
  | .readFault => true
  | .clearFault => true
  | .restart => true
  | .restartCompletion => true
  | .evaluation => true
  | .selectionPass => true
  | .stepCountdownExpiry _ => true
  | .limitCountdownExpiry _ => true
  | .idleHoldExpiry _ => true
  | .lifetimeExpiry _ _ => true
  | .chainSelection => true
  | .commandSent => true
  | .replyStart => true
  | .responseTimeoutExpiry => true
  | .outputChoice => true
  | .transmissionEnd => true
  | .frameReceptionStart => true
  | .replyByteReceived => true

end Sys2Proof
end

