-- ==== Sys2Proof/Machine/State.lean ====
section
/-! DEFINITION. The state of the hub as plain data, block by block, and its reset value. -/

namespace Sys2Proof.Machine

/-! ## Names of values -/

/-- The eight residency states (R1). -/
inductive SlotState where
  | off | powering | slumber | waking | awake | draining | settling | faulted
deriving DecidableEq, Repr

/-- Why a slot drains (R13). -/
inductive DrainCause where
  | idle | evict | shed | rest | offcmd
deriving DecidableEq, Repr

/-- A drain's target, and a profile's rest mode (R13, R140). -/
inductive RestMode where
  | slumber | off
deriving DecidableEq, Repr

/-- The kind of a switch-off of a coming-up or slumbering slot (R19). -/
inductive SwitchOffKind where
  | shed | offcmd
deriving DecidableEq, Repr

/-- What a slot's timed-out mark says (R1, R8). -/
inductive TimeoutKind where
  | powerUp | wake
deriving DecidableEq, Repr

/-- The purpose a step countdown was loaded for (R4). -/
inductive StepPurpose where
  | powerUpDelay | wakeDelay | pollInterval | idleHold
deriving DecidableEq, Repr

/-- The kinds of slot fault (R172). -/
inductive FaultKind where
  | powerUpTimeout | typeMismatch | wakeTimeout | slumberFailed | faultThreshold
deriving DecidableEq, Repr

/-- The four wake reasons (R34). -/
inductive WakeReason where
  | work | attention | managed | pin
deriving DecidableEq, Repr

/-- The gate of Budget Settings (R38); `opened` is OPEN. -/
inductive Gate where
  | opened | priority | held
deriving DecidableEq, Repr

/-- What made shedding active (R53). -/
inductive ActivationCause where
  | supplyLow | limitWrite
deriving DecidableEq, Repr

/-- What ended shedding (R66). -/
inductive ShedEndCause where
  | release | limitRaise
deriving DecidableEq, Repr

/-- The operations of a data request (R68). -/
inductive DataOp where
  | read | write | writePosted
deriving DecidableEq, Repr

/-- The states of a record (R69). -/
inductive RecordState where
  | queued | dispatched | done
deriving DecidableEq, Repr

/-- Who a record belongs to (R68). -/
inductive Owner where
  | requester (r : Requester)
  | attention
deriving DecidableEq, Repr

/-- The status codes of responses (R186). A record's completion status and an ATTENTION notice's cause are among them. -/
inductive Status where
  | ok | posted
  | moduleRefused | moduleFailed | noReply | notReady | expired | slotFaulted | aborted
  | malformed | requesterOff | tagInUse | unknownUnit | denied | range | slotAbsent | requesterFull | queueFull | busy
  | notAllowed | badIndex | badValue | duplicate | inUse | stale
deriving DecidableEq, Repr

/-- The commands of a chain frame (R95). -/
inductive ChainCommand where
  | read | write | wake | slumber | identify
deriving DecidableEq, Repr

/-- The phases of an attempt (R97). -/
inductive AttemptPhase where
  | sending | awaiting | receiving
deriving DecidableEq, Repr

/-- The sense modes of an attention line (R117). -/
inductive Sense where
  | edge | level
deriving DecidableEq, Repr

/-- The attention actions (R121). -/
inductive AttentionAction where
  | ignore | notify | wakeNotify | fetch
deriving DecidableEq, Repr

/-- The phases of a slot's attention (R117). -/
inductive AttentionPhase where
  | idle | waitingRecord | fetching | waitingAwake | holdoff
deriving DecidableEq, Repr

/-- The notice kinds (R165). -/
inductive NoticeKind where
  | ready | slotState | slotFaulted | slumberFailed | attention | writeLost | shedStart | shedEnd | linkCheck
  | ingressOverrun | noticesLost
deriving DecidableEq, Repr

/-- The cause of a READY notice (R171). -/
inductive ReadyCause where
  | reset (c : ResetCause)
  | restart
deriving DecidableEq, Repr

/-- The cause field of a notice, by kind (R165). -/
inductive Cause where
  | ready (c : ReadyCause)
  | state (st : SlotState)
  | fault (k : FaultKind)
  | status (st : Status)
  | shedStart (c : ActivationCause)
  | shedEnd (c : ShedEndCause)
deriving DecidableEq, Repr

/-! ## Records of the blocks -/

/-- A slot's drain (R13). -/
structure Drain where
  cause : DrainCause
  target : RestMode
deriving DecidableEq, Repr

/-- A running step countdown: its purpose and the time it was loaded with (R4, log entry 3). -/
structure StepCountdown where
  purpose : StepPurpose
  ms : Nat
deriving DecidableEq, Repr

/-- A slot record of the Residency Controller (R1) with the slot's SEN line (R3): `sen` is true when the switch is closed. -/
structure SlotRecord where
  state : SlotState
  grantedAwake : Nat
  grantedStandby : Nat
  drain : Option Drain
  switchOff : Option SwitchOffKind
  timedOut : Option TimeoutKind
  pin : Bool
  failures : Nat
  step : Option StepCountdown
  limit : Option Nat
  sen : Bool
deriving DecidableEq, Repr

/-- A wake list entry's reason set (R33). -/
structure ReasonSet where
  work : Bool
  attention : Bool
  managed : Bool
  pin : Bool
deriving DecidableEq, Repr

/-- A wake list entry (R33). -/
structure WakeEntry where
  slot : Slot
  join : BitVec 16
  level : Level
  reasons : ReasonSet
  passed : Nat
deriving DecidableEq, Repr

/-- The shedding state (R53); `active` carries the activation cause, which has a meaning only while shedding is active. -/
structure Shedding where
  active : Option ActivationCause
  victims : Nat
deriving DecidableEq, Repr

/-- The Budget Settings record (R30). -/
structure BudgetSettings where
  normalLimit : Nat
  reducedLimit : Nat
  bypassAllowance : Nat
  debounce : Nat
  gate : Gate
deriving DecidableEq, Repr

/-- The Chain Settings record (R114): the response timeout in µs, the poll interval in ms. -/
structure ChainSettings where
  responseTimeout : Nat
  retryLimit : Nat
  faultThreshold : Nat
  pollInterval : Nat
deriving DecidableEq, Repr

/-- A Unit Map entry (R133); bit n of `mask` is requester n's flag. -/
structure UnitEntry where
  valid : Bool
  number : Nat
  slot : Slot
  base : Nat
  length : Nat
  level : Level
  mask : Byte
  read : Bool
  write : Bool
  post : Bool
  defaultLifetime : Nat
deriving DecidableEq, Repr

/-- A Requester Table entry (R137). -/
structure RequesterEntry where
  enabled : Bool
  manage : Bool
  limit : Nat
  ceiling : Level
deriving DecidableEq, Repr

/-- The power fields of a slot profile (R140). -/
structure PowerFields where
  present : Bool
  awake : Nat
  standby : Nat
  restMode : RestMode
  moduleType : Nat
  powerUpDelay : Nat
  powerUpTimeout : Nat
  wakeDelay : Nat
  wakeTimeout : Nat
deriving DecidableEq, Repr

/-- A slot profile: its power fields and its live fields (R140). -/
structure Profile where
  power : PowerFields
  idleHold : Nat
  queueLimit : Nat
  sense : Sense
  action : AttentionAction
  attentionLevel : Level
  fetchOffset : Nat
  fetchLength : Nat
  holdoff : Nat
  report : Bool
deriving DecidableEq, Repr

/-- A record of the Transaction Store (R68). A present `deadline` is a running lifetime countdown. -/
structure Record where
  owner : Owner
  tag : Option Byte
  unit : Option Nat
  slot : Slot
  op : DataOp
  address : Nat
  length : Nat
  writeData : Option (List Byte)
  readData : Option (List Byte)
  level : Level
  deadline : Option Nat
  state : RecordState
  attempt : Nat
  status : Option Status
deriving DecidableEq, Repr

/-- The exchange in flight (R94). Its kind follows from its command, and a data exchange's record is the head of its
slot's queue (log entry 20). `frame` is the command frame that every attempt sends (R95). -/
structure Exchange where
  slot : Slot
  command : ChainCommand
  attempt : Nat
  phase : AttemptPhase
  frame : List Byte
deriving DecidableEq, Repr

/-- An entry of the control-exchange queue (R94). -/
structure ControlEntry where
  slot : Slot
  command : ChainCommand
deriving DecidableEq, Repr

/-- An attention record (R117). `senseRead` is the sense mode as last read: R131 has it read at the start of sensing, at each change
of the line and at each holdoff expiry, and a write in between governs the next such decision only (log entry 10). Like the last
level it is absent while sensing is off. -/
structure AttentionRecord where
  sensing : Bool
  lastLevel : Option Bool
  senseRead : Option Sense
  pending : Bool
  repeatCount : Nat
  phase : AttentionPhase
  holdoff : Option Nat
deriving DecidableEq, Repr

/-- A notice (R165). -/
structure Notice where
  kind : NoticeKind
  stamp : Stamp
  slot : Option Slot
  requesterTag : Option (Requester × Byte)
  unit : Option Nat
  cause : Option Cause
  count : Nat
  data : List Byte
deriving DecidableEq, Repr

/-- A latched fault (R172). -/
structure LatchedFault where
  kind : FaultKind
  slot : Slot
  stamp : Stamp
  requesterTag : Option (Requester × Byte)
deriving DecidableEq, Repr

/-- The fault record (R172). -/
structure FaultRecord where
  latched : Option LatchedFault
  serial : BitVec 8
  overflow : Nat
deriving DecidableEq, Repr

/-- An immediate response (R146, R186). -/
structure Response where
  requester : Requester
  tag : Byte
  status : Status
  contents : List Byte
deriving DecidableEq, Repr

/-- An entry of the immediate response buffer (R175). -/
inductive ImmediateEntry where
  | free
  | reserved
  | ready (r : Response)
deriving DecidableEq, Repr

/-- An item of the response queue (R179). -/
inductive ResponseItem where
  | immediate (entry : Fin 16)
  | record (r : Record)
deriving DecidableEq, Repr

/-- The transmitter (R175), with the bytes of the frame it sends (R182, R184). The item sent is the head of its queue. -/
inductive Transmitter where
  | idle
  | response (frame : List Byte)
  | notice (frame : List Byte)
deriving DecidableEq, Repr

/-- The receiver (R175). -/
inductive Receiver where
  | idle | receiving
deriving DecidableEq, Repr

/-- The restart phase (R161): NONE, or WAITING with the held frame's reserved entry, requester and tag. -/
inductive RestartPhase where
  | noRestart
  | waiting (entry : Fin 16) (requester : Requester) (tag : Byte)
deriving DecidableEq, Repr

/-- Whether the hub is held in cold reset, and by what, or runs (R190, R191). -/
inductive HubPhase where
  | held (cause : ResetCause)
  | running
deriving DecidableEq, Repr

/-! ## The state -/

/-- The whole state of the hub. -/
structure State where
  hub : HubPhase
  /-- The level of the SUPPLY_LOW pin. -/
  supplyLowPin : Bool
  /-- The levels of the ATN lines. -/
  atnLines : Vector Bool 24
  slots : Vector SlotRecord 24
  /-- The use-order list, least recently used first (R18). -/
  useOrder : List Slot
  committed : Nat
  /-- The wake list in order of creation (R35). -/
  wake : List WakeEntry
  joinCounter : BitVec 16
  evictionSet : List Slot
  evaluationDue : Bool
  passDue : Bool
  /-- The taken level of SUPPLY_LOW (R31). -/
  supplyTaken : Bool
  debounce : Option Nat
  shedding : Shedding
  budget : BudgetSettings
  chain : ChainSettings
  unitMap : Vector UnitEntry 128
  requesters : Vector RequesterEntry 8
  profiles : Vector Profile 24
  /-- The slot queues, head first (R82). -/
  queues : Vector (List Record) 24
  /-- The fetch claims, oldest first (R79). -/
  claims : List Slot
  /-- The exchange in flight; the chain is BUSY exactly while it is present (R94). -/
  exchange : Option Exchange
  /-- The control-exchange queue, oldest first (R105). -/
  control : List ControlEntry
  roundRobin : Slot
  stopped : Bool
  /-- The running response timeout in µs (R97). -/
  responseTimeout : Option Nat
  attention : Vector AttentionRecord 24
  timeBase : Stamp
  /-- The notice queue, oldest first (R167). -/
  notices : List Notice
  lostCount : Nat
  firstLoss : Stamp
  fault : FaultRecord
  receiver : Receiver
  /-- Ingress: the contents of the checked REQUEST frames, oldest first (R177). -/
  ingress : List (List Byte)
  immediate : Vector ImmediateEntry 16
  /-- The response queue, oldest first (R179). -/
  responses : List ResponseItem
  transmitter : Transmitter
  responseRun : Nat
  taking : Bool
  restart : RestartPhase
  /-- MODEL'S OWN: how many free values have been drawn (log entry 1). -/
  freeIndex : Nat
  /-- MODEL'S OWN: the commands that wait, first in, first out. -/
  pending : List Instr
deriving DecidableEq, Repr

/-! ## Reset values -/

/-- A slot record after a cold reset (R1, R3). -/
def SlotRecord.reset : SlotRecord :=
  { state := .off, grantedAwake := 0, grantedStandby := 0, drain := none, switchOff := none, timedOut := none, pin := false,
    failures := 0, step := none, limit := none, sen := false }

/-- A Unit Map entry after a cold reset (R133). -/
def UnitEntry.reset : UnitEntry :=
  { valid := false, number := 0, slot := 0, base := 0, length := 1, level := .normal, mask := 0, read := false,
    write := false, post := false, defaultLifetime := 0 }

/-- The entry of requester 0 after a cold reset (R137). -/
def RequesterEntry.resetFirst : RequesterEntry := { enabled := true, manage := true, limit := 16, ceiling := .urgent }

/-- The entries of requesters 1 to 7 after a cold reset (R137). -/
def RequesterEntry.resetOther : RequesterEntry := { enabled := false, manage := false, limit := 0, ceiling := .normal }

/-- A slot profile after a cold reset (R140). -/
def Profile.reset : Profile :=
  { power :=
      { present := false, awake := 1, standby := 0, restMode := .slumber, moduleType := 0, powerUpDelay := 50,
        powerUpTimeout := 500, wakeDelay := 2, wakeTimeout := 20 },
    idleHold := 100, queueLimit := 4, sense := .edge, action := .ignore, attentionLevel := .normal, fetchOffset := 0,
    fetchLength := 1, holdoff := 10, report := false }

/-- Budget Settings after a cold reset (R30). -/
def BudgetSettings.reset : BudgetSettings :=
  { normalLimit := 0, reducedLimit := 0, bypassAllowance := 2, debounce := 5, gate := .opened }

/-- Chain Settings after a cold reset (R114). -/
def ChainSettings.reset : ChainSettings :=
  { responseTimeout := 500, retryLimit := 2, faultThreshold := 4, pollInterval := 1 }

/-- An attention record after a cold reset (R117). -/
def AttentionRecord.reset : AttentionRecord :=
  { sensing := false, lastLevel := none, senseRead := none, pending := false, repeatCount := 0, phase := .idle, holdoff := none }

/-- The hub during power-on: held in cold reset with every block at its reset values (R190), no command waiting. The start
event (R191) is a command. The pin levels are the model's choice (log entry 7). -/
def State.reset : State :=
  { hub := .held .powerOn
    supplyLowPin := false
    atnLines := Vector.replicate 24 false
    slots := Vector.replicate 24 SlotRecord.reset
    useOrder := []
    committed := 0
    wake := []
    joinCounter := 0
    evictionSet := []
    evaluationDue := false
    passDue := false
    supplyTaken := false
    debounce := none
    shedding := { active := none, victims := 0 }
    budget := BudgetSettings.reset
    chain := ChainSettings.reset
    unitMap := Vector.replicate 128 UnitEntry.reset
    requesters := (Vector.replicate 8 RequesterEntry.resetOther).set 0 RequesterEntry.resetFirst
    profiles := Vector.replicate 24 Profile.reset
    queues := Vector.replicate 24 []
    claims := []
    exchange := none
    control := []
    roundRobin := 23
    stopped := false
    responseTimeout := none
    attention := Vector.replicate 24 AttentionRecord.reset
    timeBase := 0
    notices := []
    lostCount := 0
    firstLoss := 0
    fault := { latched := none, serial := 0, overflow := 0 }
    receiver := .idle
    ingress := []
    immediate := Vector.replicate 16 .free
    responses := []
    transmitter := .idle
    responseRun := 0
    taking := true
    restart := .noRestart
    freeIndex := 0
    pending := [] }

/-- The ways in which a step can stop the hub. The spec names none: a slot fault (R22) is a state change of the hub. So
this type has no constructor, and no meaning can raise a fault. -/
inductive Fault where
deriving DecidableEq, Repr

/-- The ways in which a command can be refused by the model. -/
inductive Refusal where
  /-- Raised by an arm of exec whose command has no meaning yet (safe: nothing is claimed of it). No arm raises it now. -/
  | notModelled (mnemonic : String)
deriving DecidableEq, Repr

end Sys2Proof.Machine
end

