-- ==== Sys2Proof/Machine/Codes.lean ====
section
/-! DEFINITION. The code tables of Frame Layouts and the byte order of multi-byte fields (most significant byte first). -/

namespace Sys2Proof.Machine

/-- One byte of a number. -/
def byteOf (v : Nat) : Byte := BitVec.ofNat 8 v

/-- A 16-bit field, most significant byte first. -/
def word16 (v : Nat) : List Byte := [byteOf (v / 256), byteOf v]

/-- A 32-bit field, most significant byte first. -/
def word32 (v : Stamp) : List Byte :=
  [byteOf (v.toNat / 16777216), byteOf (v.toNat / 65536), byteOf (v.toNat / 256), byteOf v.toNat]

/-- The value of a 16-bit field. -/
def readWord16 (hi lo : Byte) : Nat := hi.toNat * 256 + lo.toNat

/-- A flag at bit `n` of a byte. -/
def flagBit (n : Nat) (b : Bool) : Nat := if b then 2 ^ n else 0

/-- State codes (R186). -/
def slotStateCode : SlotState → Byte
  | .off => 0x00
  | .powering => 0x01
  | .slumber => 0x02
  | .waking => 0x03
  | .awake => 0x04
  | .draining => 0x05
  | .settling => 0x06
  | .faulted => 0x07

/-- Drain cause codes (R186). -/
def drainCauseCode : DrainCause → Byte
  | .idle => 0x01
  | .evict => 0x02
  | .shed => 0x03
  | .rest => 0x04
  | .offcmd => 0x05

/-- Drain target codes (R186). -/
def restModeCode : RestMode → Byte
  | .slumber => 0x01
  | .off => 0x02

/-- Switch-off pending codes of READ SLOT (R186). -/
def switchOffCode : Option SwitchOffKind → Byte
  | none => 0x00
  | some .shed => 0x03
  | some .offcmd => 0x05

/-- Gate codes (R186). -/
def gateCode : Gate → Byte
  | .opened => 0x00
  | .priority => 0x01
  | .held => 0x02

/-- Level codes. -/
def levelCode : Level → Byte
  | .normal => 0x00
  | .urgent => 0x01

/-- Fault kind codes (R186). -/
def faultKindCode : FaultKind → Byte
  | .powerUpTimeout => 0x01
  | .typeMismatch => 0x02
  | .wakeTimeout => 0x03
  | .slumberFailed => 0x04
  | .faultThreshold => 0x05

/-- Status codes (R186). -/
def statusCode : Status → Byte
  | .ok => 0x00
  | .posted => 0x01
  | .moduleRefused => 0x10
  | .moduleFailed => 0x11
  | .noReply => 0x12
  | .notReady => 0x13
  | .expired => 0x14
  | .slotFaulted => 0x15
  | .aborted => 0x16
  | .malformed => 0x20
  | .requesterOff => 0x21
  | .tagInUse => 0x22
  | .unknownUnit => 0x23
  | .denied => 0x24
  | .range => 0x25
  | .slotAbsent => 0x26
  | .requesterFull => 0x27
  | .queueFull => 0x28
  | .busy => 0x29
  | .notAllowed => 0x2A
  | .badIndex => 0x2B
  | .badValue => 0x2C
  | .duplicate => 0x2D
  | .inUse => 0x2E
  | .stale => 0x2F

/-- Notice kind codes (R188). -/
def noticeKindCode : NoticeKind → Byte
  | .ready => 0x01
  | .slotState => 0x02
  | .slotFaulted => 0x03
  | .slumberFailed => 0x04
  | .attention => 0x05
  | .writeLost => 0x06
  | .shedStart => 0x07
  | .shedEnd => 0x08
  | .linkCheck => 0x09
  | .ingressOverrun => 0x0A
  | .noticesLost => 0x0B

/-- Cause codes of notices (R188). -/
def causeCode : Cause → Byte
  | .ready (.reset .powerOn) => 0x01
  | .ready (.reset .resetPin) => 0x02
  | .ready .restart => 0x03
  | .state st => slotStateCode st
  | .fault k => faultKindCode k
  | .status st => statusCode st
  | .shedStart .supplyLow => 0x01
  | .shedStart .limitWrite => 0x02
  | .shedEnd .release => 0x03
  | .shedEnd .limitRaise => 0x04

/-- Chain command codes (11.6). -/
def chainCommandCode : ChainCommand → Byte
  | .read => 0x01
  | .write => 0x02
  | .wake => 0x03
  | .slumber => 0x04
  | .identify => 0x05

/-- Attention action codes (R187). -/
def actionCode : AttentionAction → Byte
  | .ignore => 0x00
  | .notify => 0x01
  | .wakeNotify => 0x02
  | .fetch => 0x03

/-- The owner byte of READ QUEUE (R186). -/
def ownerCode : Owner → Byte
  | .requester r => byteOf r.val
  | .attention => 0x80

/-- The record state codes of READ QUEUE (R186). A DONE record is in no slot queue, so it has no code there. -/
def recordStateCode : RecordState → Byte
  | .queued => 0x01
  | .dispatched => 0x02
  | .done => 0x00

/-- The fault kind of an expired power-up or wake timeout (R8). -/
def timeoutFault : TimeoutKind → FaultKind
  | .powerUp => .powerUpTimeout
  | .wake => .wakeTimeout

/-- The higher of two levels. -/
def higherLevel : Level → Level → Level
  | .urgent, _ => .urgent
  | .normal, l => l

/-- The lower of two levels (R68). -/
def lowerLevel : Level → Level → Level
  | .normal, _ => .normal
  | .urgent, l => l

end Sys2Proof.Machine
end

