-- ==== Sys2Proof/Machine/Frames.lean ====
section
/-! DEFINITION. Frames as bytes: the two checks, the escaping, the outbound frames, the judging of an inbound frame and of a
chain reply. -/

namespace Sys2Proof.Machine

/-! ## Check computations -/

/-- One bit of the 16-bit check: shift, and subtract the generator 1021h when a one leaves at the top (R184). -/
def crc16Bit (c : BitVec 16) : BitVec 16 := if c.msb then (c <<< 1) ^^^ 0x1021 else c <<< 1

/-- The 16-bit check carried on over one byte, most significant bit first. -/
def crc16Byte (c : BitVec 16) (b : Byte) : BitVec 16 :=
  crc16Bit (crc16Bit (crc16Bit (crc16Bit (crc16Bit (crc16Bit (crc16Bit (crc16Bit
    (c ^^^ (b.zeroExtend 16 <<< 8)))))))))

/-- The 16-bit check of the system link: initial value FFFFh (R184). -/
def crc16 (bytes : List Byte) : BitVec 16 := bytes.foldl crc16Byte 0xFFFF

/-- One bit of the 8-bit check with generator 31h (R189). -/
def crc8Bit (c : Byte) : Byte := if c.msb then (c <<< 1) ^^^ 0x31 else c <<< 1

/-- The 8-bit check carried on over one byte. -/
def crc8Byte (c b : Byte) : Byte :=
  crc8Bit (crc8Bit (crc8Bit (crc8Bit (crc8Bit (crc8Bit (crc8Bit (crc8Bit (c ^^^ b))))))))

/-- The 8-bit chain check: initial value FFh (R189). -/
def crc8 (bytes : List Byte) : Byte := bytes.foldl crc8Byte 0xFF

/-! ## Outbound frames -/

/-- A5h, 5Ah and 55h are sent escaped (R184). -/
def escapeByte (b : Byte) : List Byte := if b == 0xA5 || b == 0x5A || b == 0x55 then [0x55, b ^^^ 0x80] else [b]

/-- The bytes of a frame on the system link: delimiters about the escaped body, which is the kind byte, the contents and
the check (R184). -/
def linkFrame (kind : Byte) (contents : List Byte) : List Byte :=
  let body := kind :: contents
  0xA5 :: ((body ++ word16 (crc16 body).toNat).flatMap escapeByte ++ [0x5A])

/-- The contents of a RESPONSE frame (R186). -/
def responseContents (r : Response) : List Byte := byteOf r.requester.val :: r.tag :: statusCode r.status :: r.contents

/-- The response of a completed READ or WRITE record (R88, R186): a READ answered OK returns a length byte and the data. -/
def recordResponse (r : Record) : List Byte :=
  let who : Byte := match r.owner with
    | .requester q => byteOf q.val
    | .attention => 0
  let st := r.status.getD .ok
  who :: r.tag.getD 0 :: statusCode st ::
    (match r.op, st, r.readData with
      | .read, .ok, some d => byteOf d.length :: d
      | _, _, _ => [])

/-- The presence byte of a NOTICE frame (R188). -/
def presenceByte (n : Notice) : Byte :=
  byteOf (flagBit 0 n.slot.isSome + flagBit 1 n.requesterTag.isSome + flagBit 2 n.unit.isSome + flagBit 3 n.cause.isSome)

/-- The contents of a NOTICE frame: a head of 14 bytes, in which an absent field is sent as zero bytes, and the data
(R188). -/
def noticeContents (n : Notice) : List Byte :=
  [noticeKindCode n.kind] ++ word32 n.stamp ++
    [presenceByte n,
      match n.slot with
        | some k => byteOf k.val
        | none => 0,
      match n.requesterTag with
        | some (q, _) => byteOf q.val
        | none => 0,
      match n.requesterTag with
        | some (_, t) => t
        | none => 0] ++
    word16 (n.unit.getD 0) ++
    [match n.cause with
        | some c => causeCode c
        | none => 0,
      byteOf n.count, byteOf n.data.length] ++
    n.data

/-- A RESPONSE frame. -/
def responseFrame (contents : List Byte) : List Byte := linkFrame 0x02 contents

/-- A NOTICE frame. -/
def noticeFrame (n : Notice) : List Byte := linkFrame 0x03 (noticeContents n)

/-! ## Inbound frames -/

/-- How a reception ends (R176). -/
inductive Reception where
  /-- The frame is bad; `reopened` when an opening delimiter inside it opened a new frame. -/
  | bad (reopened : Bool)
  /-- The closing delimiter has come; the unescaped body. -/
  | closed (body : List Byte)
deriving DecidableEq, Repr

/-- The bytes after an opening delimiter, read up to the end of the reception (R176, R184). `body` is what has been received
so far, last byte first; `escaped` says that the byte before was an escape. Bytes after the end are outside a frame and are
discarded. Bytes that stop without an end lack their closing delimiter, and the frame is bad (log entry 18). -/
def receive (body : List Byte) (escaped : Bool) : List Byte → Reception
  | [] => .bad false
  | b :: rest =>
    if b == 0xA5 then .bad true
    else if escaped then
      if b == 0x25 || b == 0xDA || b == 0xD5 then
        if body.length = 45 then .bad false else receive ((b ^^^ 0x80) :: body) false rest
      else .bad false
    else if b == 0x5A then .closed body.reverse
    else if b == 0x55 then receive body true rest
    else if body.length = 45 then .bad false
    else receive (b :: body) false rest

/-- The contents of a good REQUEST body (R176): the check agrees, the kind is REQUEST, and there is a requester 0 to 7 and a
tag. -/
def requestContents (body : List Byte) : Option (List Byte) :=
  let n := body.length - 2
  if body.length < 3 then none
  else if body.drop n ≠ word16 (crc16 (body.take n)).toNat then none
  else match body.take n with
    | 0x01 :: r :: t :: rest => if r.toNat < 8 then some (r :: t :: rest) else none
    | _ => none

/-! ## Chain frames -/

/-- A command frame with its check (R95, 11.6). -/
def commandFrame (slot : Slot) (command : ChainCommand) (address length : Nat) (data : List Byte) : List Byte :=
  let fields := [byteOf slot.val, chainCommandCode command] ++ word16 address ++ [byteOf length] ++ data
  fields ++ [crc8 fields]

/-- The outcome of an attempt (R97). -/
inductive AttemptOutcome where
  | timeout
  | checkError
  | done (data : List Byte)
  | refused
  | notReady
  | failed
deriving DecidableEq, Repr

/-- The length a DONE reply must have (R98): the requested length after READ, 3 after IDENTIFY, 0 after the others. -/
def doneLength (command : ChainCommand) (requested : Nat) : Nat :=
  match command with
  | .read => requested
  | .identify => 3
  | .write => 0
  | .wake => 0
  | .slumber => 0

/-- The judgement of a received reply (R98, R189): the five conditions, and then the status. -/
def judgeReply (slot : Slot) (command : ChainCommand) (requested : Nat) (bytes : List Byte) : AttemptOutcome :=
  match bytes with
  | echo :: status :: len :: rest =>
    let data := rest.dropLast
    if len.toNat ≤ 32 ∧ rest.length = len.toNat + 1 ∧ rest.getLast? = some (crc8 (echo :: status :: len :: data)) ∧
        echo = byteOf slot.val then
      if status = 0x00 ∧ len.toNat = doneLength command requested then .done data
      else if status = 0x01 ∧ len.toNat = 0 then .refused
      else if status = 0x02 ∧ len.toNat = 0 then .notReady
      else if status = 0x03 ∧ len.toNat = 0 then .failed
      else .checkError
    else .checkError
  | _ => .checkError

end Sys2Proof.Machine
end

