-- ==== Sys2Proof/Machine/Operands.lean ====
section
/-! DEFINITION. Request frames as operands: which command takes a frame, the form check of each operation (admission check 1),
and the layouts of table entries. A frame is its contents, as ingress holds them: requester, tag, unit, and so on (R185). -/

namespace Sys2Proof.Machine

/-- The commands that take a frame, one for each row of the table that does. -/
inductive TakeKind where
  | data (op : DataOp)
  | readEntry | writeUnit | writeRequester | writeProfile | writeChain | writeBudget | findUnit | readSlot | readQueue
  | readBudget | slotWake | slotRest | slotOff | pin | unpin | slotClear | readFault | clearFault | restart
deriving DecidableEq, Repr

/-- The five tables of READ ENTRY and WRITE ENTRY (R147). -/
inductive Table where
  | unit | profile | requester | chain | budget
deriving DecidableEq, Repr

/-- The table codes (R185). -/
def tableOf (b : Byte) : Option Table :=
  if b = 0x01 then some .unit
  else if b = 0x02 then some .profile
  else if b = 0x03 then some .requester
  else if b = 0x04 then some .chain
  else if b = 0x05 then some .budget
  else none

/-- The entries of a table (R147). -/
def tableSize : Table → Nat
  | .unit => 128
  | .profile => 24
  | .requester => 8
  | .chain => 1
  | .budget => 1

/-- The bytes of an entry (R187). -/
def entryBytes : Table → Nat
  | .unit => 11
  | .profile => 20
  | .requester => 2
  | .chain => 5
  | .budget => 7

/-- The operation codes of data requests (R185). -/
def dataOpOf (b : Byte) : Option DataOp :=
  if b = 0x01 then some .read else if b = 0x02 then some .write else if b = 0x03 then some .writePosted else none

/-- The take of a WRITE ENTRY, by its table. -/
def writeTake : Table → TakeKind
  | .unit => .writeUnit
  | .profile => .writeProfile
  | .requester => .writeRequester
  | .chain => .writeChain
  | .budget => .writeBudget

/-- The take of a management operation, by its code and arguments (R185). -/
def managementTake (code : Byte) (args : List Byte) : Option TakeKind :=
  if code = 0x01 then some .readEntry
  else if code = 0x02 then (args.head?.bind tableOf).map writeTake
  else if code = 0x03 then some .findUnit
  else if code = 0x04 then some .readSlot
  else if code = 0x05 then some .readQueue
  else if code = 0x06 then some .readBudget
  else if code = 0x07 then some .slotWake
  else if code = 0x08 then some .slotRest
  else if code = 0x09 then some .slotOff
  else if code = 0x0A then some .pin
  else if code = 0x0B then some .unpin
  else if code = 0x0C then some .slotClear
  else if code = 0x0D then some .readFault
  else if code = 0x0E then some .clearFault
  else if code = 0x0F then some .restart
  else none

/-- The command that takes a frame, by its unit and operation; none for a frame that names no operation of the hub, which
every take refuses alike as MALFORMED (log entry 5). -/
def takeKindOf : List Byte → Option TakeKind
  | _ :: _ :: u1 :: u0 :: code :: args =>
    if readWord16 u1 u0 = 0 then managementTake code args else (dataOpOf code).map .data
  | _ => none

/-- The requester of a frame in ingress. Reception has checked that it lies in 0 to 7 (R176). -/
def frameRequester : List Byte → Requester
  | r :: _ => Fin.ofNat 8 r.toNat
  | [] => 0

/-- The tag of a frame in ingress. -/
def frameTag : List Byte → Byte
  | _ :: t :: _ => t
  | _ => 0

/-! ## Form checks (admission check 1) -/

/-- A data request that has passed check 1. -/
structure DataRequest where
  op : DataOp
  unit : Nat
  offset : Nat
  length : Nat
  lifetime : Nat
  data : List Byte
deriving DecidableEq, Repr

/-- Check 1 of a data request (R72, R185): the operation, a length of 1 to 32, and as many data bytes as the operation and the
length call for. -/
def dataForm (op : DataOp) : List Byte → Option DataRequest
  | _ :: _ :: u1 :: u0 :: code :: o1 :: o0 :: len :: l1 :: l0 :: data =>
    if readWord16 u1 u0 ≠ 0 ∧ dataOpOf code = some op ∧ 1 ≤ len.toNat ∧ len.toNat ≤ 32 ∧
        data.length = (if op = .read then 0 else len.toNat) then
      some { op := op, unit := readWord16 u1 u0, offset := readWord16 o1 o0, length := len.toNat,
             lifetime := readWord16 l1 l0, data := data }
    else none
  | _ => none

/-- The argument bytes of the management operation with this code, if the frame names it (R185). -/
def argumentsOf (code : Byte) : List Byte → Option (List Byte)
  | _ :: _ :: u1 :: u0 :: c :: args => if readWord16 u1 u0 = 0 ∧ c = code then some args else none
  | _ => none

/-- An operation without arguments (R147). -/
def noArguments (code : Byte) (frame : List Byte) : Option Unit :=
  match argumentsOf code frame with
  | some [] => some ()
  | _ => none

/-- An operation with one argument byte: a slot, or a serial (R147). -/
def oneArgument (code : Byte) (frame : List Byte) : Option Byte :=
  match argumentsOf code frame with
  | some [a] => some a
  | _ => none

/-- SLOT WAKE's slot and level (R147). -/
def wakeArguments (frame : List Byte) : Option (Byte × Byte) :=
  match argumentsOf 0x07 frame with
  | some [n, l] => some (n, l)
  | _ => none

/-- FIND UNIT's unit number (R147). -/
def unitArgument (frame : List Byte) : Option Nat :=
  match argumentsOf 0x03 frame with
  | some [hi, lo] => some (readWord16 hi lo)
  | _ => none

/-- READ ENTRY's table and index (R147). -/
def readEntryArguments (frame : List Byte) : Option (Table × Nat) :=
  match argumentsOf 0x01 frame with
  | some [t, i] => (tableOf t).map (fun tb => (tb, i.toNat))
  | _ => none

/-- WRITE ENTRY's index and entry bytes, for one table: exactly the bytes the table's layout has (R147, R187). -/
def writeEntryArguments (t : Table) (frame : List Byte) : Option (Nat × List Byte) :=
  match argumentsOf 0x02 frame with
  | some (tb :: i :: entry) => if tableOf tb = some t ∧ entry.length = entryBytes t then some (i.toNat, entry) else none
  | _ => none

/-- A slot argument; none outside 0 to 23 (BAD_INDEX, R147). -/
def slotOfByte (b : Byte) : Option Slot := if h : b.toNat < 24 then some ⟨b.toNat, h⟩ else none

/-- A level argument; none for another code (BAD_VALUE, R147). -/
def levelOfByte (b : Byte) : Option Level :=
  if b = 0x00 then some .normal else if b = 0x01 then some .urgent else none

/-! ## Entry layouts (R187) -/

/-- The level a flag bit codes. -/
def levelOfBit (b : Bool) : Level := if b then .urgent else .normal

/-- Read a Unit Map entry; none where R134 or R187 answers BAD_VALUE. -/
def readUnitEntry : List Byte → Option UnitEntry
  | [flags, n1, n0, slot, b1, b0, l1, l0, mask, t1, t0] =>
    match slotOfByte slot with
    | none => none
    | some k =>
      let valid := flags.getLsbD 0
      let number := readWord16 n1 n0
      let base := readWord16 b1 b0
      let length := readWord16 l1 l0 + 1
      if flags.toNat < 32 ∧ base + length ≤ 65536 ∧ ¬ (valid = true ∧ number = 0) then
        some { valid := valid, number := number, slot := k, base := base, length := length,
               level := levelOfBit (flags.getLsbD 1), mask := mask, read := flags.getLsbD 2, write := flags.getLsbD 3,
               post := flags.getLsbD 4, defaultLifetime := readWord16 t1 t0 }
      else none
  | _ => none

/-- The layout of a Unit Map entry. -/
def layUnitEntry (e : UnitEntry) : List Byte :=
  [byteOf (flagBit 0 e.valid + flagBit 1 (e.level == .urgent) + flagBit 2 e.read + flagBit 3 e.write + flagBit 4 e.post)] ++
    word16 e.number ++ [byteOf e.slot.val] ++ word16 e.base ++ word16 (e.length - 1) ++ [e.mask] ++ word16 e.defaultLifetime

/-- Read a Requester Table entry; none where R137 or R187 answers BAD_VALUE. -/
def readRequesterEntry : List Byte → Option RequesterEntry
  | [flags, limit] =>
    if flags.toNat < 8 ∧ limit.toNat ≤ 32 then
      some { enabled := flags.getLsbD 0, manage := flags.getLsbD 1, limit := limit.toNat,
             ceiling := levelOfBit (flags.getLsbD 2) }
    else none
  | _ => none

/-- The layout of a Requester Table entry. -/
def layRequesterEntry (e : RequesterEntry) : List Byte :=
  [byteOf (flagBit 0 e.enabled + flagBit 1 e.manage + flagBit 2 (e.ceiling == .urgent)), byteOf e.limit]

/-- The action a code names (R187). -/
def actionOf (b : Byte) : Option AttentionAction :=
  if b = 0x00 then some .ignore
  else if b = 0x01 then some .notify
  else if b = 0x02 then some .wakeNotify
  else if b = 0x03 then some .fetch
  else none

/-- The ranges of R140 and the two relations of R141. -/
def profileInRange (p : Profile) : Bool :=
  1 ≤ p.power.awake && p.power.awake ≤ 63 && p.power.standby ≤ 15 && p.power.standby ≤ p.power.awake &&
    p.power.moduleType ≤ 65535 && p.power.powerUpDelay ≤ 1000 && 1 ≤ p.power.powerUpTimeout &&
    p.power.powerUpTimeout ≤ 5000 && p.power.wakeDelay ≤ 255 && 1 ≤ p.power.wakeTimeout && p.power.wakeTimeout ≤ 1000 &&
    p.idleHold ≤ 65535 && 1 ≤ p.queueLimit && p.queueLimit ≤ 16 && p.fetchOffset ≤ 65535 && 1 ≤ p.fetchLength &&
    p.fetchLength ≤ 32 && 1 ≤ p.holdoff && p.holdoff ≤ 255 && p.fetchOffset + p.fetchLength ≤ 65536

/-- Read a slot profile; none where R141 or R187 answers BAD_VALUE. -/
def readProfile : List Byte → Option Profile
  | [flags, action, awake, standby, y1, y0, d1, d0, u1, u0, wd, w1, w0, i1, i0, ql, f1, f0, fl, ho] =>
    match actionOf action with
    | none => none
    | some a =>
      let p : Profile :=
        { power :=
            { present := flags.getLsbD 0, awake := awake.toNat, standby := standby.toNat,
              restMode := if flags.getLsbD 1 then .off else .slumber, moduleType := readWord16 y1 y0,
              powerUpDelay := readWord16 d1 d0, powerUpTimeout := readWord16 u1 u0, wakeDelay := wd.toNat,
              wakeTimeout := readWord16 w1 w0 },
          idleHold := readWord16 i1 i0, queueLimit := ql.toNat, sense := if flags.getLsbD 2 then .level else .edge,
          action := a, attentionLevel := levelOfBit (flags.getLsbD 3), fetchOffset := readWord16 f1 f0,
          fetchLength := fl.toNat, holdoff := ho.toNat, report := flags.getLsbD 4 }
      if flags.toNat < 32 ∧ profileInRange p = true then some p else none
  | _ => none

/-- The layout of a slot profile. -/
def layProfile (p : Profile) : List Byte :=
  [byteOf (flagBit 0 p.power.present + flagBit 1 (p.power.restMode == .off) + flagBit 2 (p.sense == .level) +
      flagBit 3 (p.attentionLevel == .urgent) + flagBit 4 p.report),
    actionCode p.action, byteOf p.power.awake, byteOf p.power.standby] ++
    word16 p.power.moduleType ++ word16 p.power.powerUpDelay ++ word16 p.power.powerUpTimeout ++ [byteOf p.power.wakeDelay] ++
    word16 p.power.wakeTimeout ++ word16 p.idleHold ++ [byteOf p.queueLimit] ++ word16 p.fetchOffset ++
    [byteOf p.fetchLength, byteOf p.holdoff]

/-- The ranges of Chain Settings (R149). -/
def chainInRange (c : ChainSettings) : Bool :=
  50 ≤ c.responseTimeout && c.responseTimeout ≤ 5000 && c.retryLimit ≤ 3 && 1 ≤ c.faultThreshold && c.faultThreshold ≤ 15 &&
    1 ≤ c.pollInterval && c.pollInterval ≤ 20

/-- Read Chain Settings; none where R149 answers BAD_VALUE. -/
def readChainSettings : List Byte → Option ChainSettings
  | [r1, r0, retry, threshold, poll] =>
    let c : ChainSettings :=
      { responseTimeout := readWord16 r1 r0, retryLimit := retry.toNat, faultThreshold := threshold.toNat,
        pollInterval := poll.toNat }
    if chainInRange c = true then some c else none
  | _ => none

/-- The layout of Chain Settings. -/
def layChainSettings (c : ChainSettings) : List Byte :=
  word16 c.responseTimeout ++ [byteOf c.retryLimit, byteOf c.faultThreshold, byteOf c.pollInterval]

/-- The gate a code names (R186). -/
def gateOf (b : Byte) : Option Gate :=
  if b = 0x00 then some .opened else if b = 0x01 then some .priority else if b = 0x02 then some .held else none

/-- The ranges of Budget Settings (R149). -/
def budgetInRange (b : BudgetSettings) : Bool :=
  b.normalLimit ≤ 1023 && b.reducedLimit ≤ 1023 && b.bypassAllowance ≤ 7 && b.debounce ≤ 100

/-- Read Budget Settings; none where R149 answers BAD_VALUE. -/
def readBudgetSettings : List Byte → Option BudgetSettings
  | [n1, n0, r1, r0, bypass, debounce, gate] =>
    match gateOf gate with
    | none => none
    | some g =>
      let b : BudgetSettings :=
        { normalLimit := readWord16 n1 n0, reducedLimit := readWord16 r1 r0, bypassAllowance := bypass.toNat,
          debounce := debounce.toNat, gate := g }
      if budgetInRange b = true then some b else none
  | _ => none

/-- The layout of Budget Settings. -/
def layBudgetSettings (b : BudgetSettings) : List Byte :=
  word16 b.normalLimit ++ word16 b.reducedLimit ++ [byteOf b.bypassAllowance, byteOf b.debounce, gateCode b.gate]

end Sys2Proof.Machine
end

