-- ==== Sys2Proof/Machine/Flags.lean ====
section
/-! DEFINITION. The state read: accessors of the per-slot records, and every quantity and condition that the spec computes from
the state (charges, weights, live records, candidates, due events). -/

namespace Sys2Proof.Machine

/-! ## Accessors -/

/-- The slot record of `n`. -/
def State.slot (s : State) (n : Slot) : SlotRecord := s.slots[n]

/-- The attention record of `n`. -/
def State.att (s : State) (n : Slot) : AttentionRecord := s.attention[n]

/-- The slot queue of `n`. -/
def State.queue (s : State) (n : Slot) : List Record := s.queues[n]

/-- The profile of `n`. -/
def State.profile (s : State) (n : Slot) : Profile := s.profiles[n]

/-- The Requester Table entry of `r`. -/
def State.requester (s : State) (r : Requester) : RequesterEntry := s.requesters[r]

/-- Replace the slot record of `n`. -/
def State.setSlot (s : State) (n : Slot) (r : SlotRecord) : State := { s with slots := s.slots.set n r }

/-- Replace the attention record of `n`. -/
def State.setAtt (s : State) (n : Slot) (a : AttentionRecord) : State := { s with attention := s.attention.set n a }

/-- Replace the slot queue of `n`. -/
def State.setQueue (s : State) (n : Slot) (q : List Record) : State := { s with queues := s.queues.set n q }

/-- All slots, from 0 to 23. -/
def allSlots : List Slot := List.finRange 24

/-! ## The slot's own conditions -/

/-- The states in which the supply-enable switch is closed (R3). -/
def SlotState.powered : SlotState → Bool
  | .off => false
  | .faulted => false
  | .powering => true
  | .slumber => true
  | .waking => true
  | .awake => true
  | .draining => true
  | .settling => true

/-- OFF or SLUMBER. -/
def SlotState.resting : SlotState → Bool
  | .off => true
  | .slumber => true
  | .powering => false
  | .waking => false
  | .awake => false
  | .draining => false
  | .settling => false
  | .faulted => false

/-- POWERING or WAKING. -/
def SlotState.comingUp : SlotState → Bool
  | .powering => true
  | .waking => true
  | .off => false
  | .slumber => false
  | .awake => false
  | .draining => false
  | .settling => false
  | .faulted => false

/-- The charge of a slot (R2). -/
def SlotRecord.charge (r : SlotRecord) : Nat :=
  match r.state with
  | .off => 0
  | .faulted => 0
  | .slumber => r.grantedStandby
  | .powering => r.grantedAwake
  | .waking => r.grantedAwake
  | .awake => r.grantedAwake
  | .draining => r.grantedAwake
  | .settling => r.grantedAwake

/-- What rest of a target gives back (R2, R28, R45). -/
def SlotRecord.releaseTo (r : SlotRecord) (target : RestMode) : Nat :=
  match target with
  | .slumber => r.grantedAwake - r.grantedStandby
  | .off => r.grantedAwake

/-- The pending release of a slot (R28). -/
def SlotRecord.pendingRelease (r : SlotRecord) : Nat :=
  match r.state, r.drain, r.switchOff with
  | .draining, some d, _ => if d.cause = .idle then 0 else r.releaseTo d.target
  | .settling, some d, _ => r.releaseTo d.target
  | .powering, _, some _ => r.grantedAwake
  | .waking, _, some _ => r.grantedAwake
  | _, _, _ => 0

/-- A shedding victim that has not yet come to rest: in a SHED drain, or with a switch-off of kind SHED pending (R63). -/
def SlotRecord.isVictim (r : SlotRecord) : Bool :=
  r.drain.any (fun d => d.cause == .shed) || r.switchOff == some .shed

/-- A slot in DRAINING with an IDLE drain, the one drain that can be cancelled (R13, R15). -/
def SlotRecord.idleDraining (r : SlotRecord) : Bool :=
  r.state == .draining && (match r.drain with
    | some d => d.cause == .idle
    | none => false)

/-- An exchange for `n` is in flight. -/
def State.inFlight (s : State) (n : Slot) : Bool :=
  match s.exchange with
  | some e => e.slot == n
  | none => false

/-- A warm restart waits for its completion (R161). -/
def State.restarting (s : State) : Bool :=
  match s.restart with
  | .waiting _ _ _ => true
  | .noRestart => false

/-- The hub runs: it is not held in cold reset (R190). -/
def State.running (s : State) : Bool := s.hub == .running

/-! ## Weights and limits -/

/-- The sum of the charges of all slots, which committed weight equals (R27). -/
def State.chargeSum (s : State) : Nat := (allSlots.map (fun n => (s.slot n).charge)).sum

/-- The sum of all pending releases (R28). -/
def State.pendingSum (s : State) : Nat := (allSlots.map (fun n => (s.slot n).pendingRelease)).sum

/-- Projected weight (R28). -/
def State.projected (s : State) : Nat := s.committed - s.pendingSum

/-- The effective limit (R32). -/
def State.effectiveLimit (s : State) : Nat := if s.supplyTaken then s.budget.reducedLimit else s.budget.normalLimit

/-- Shedding is active (R53). -/
def State.sheds (s : State) : Bool := s.shedding.active.isSome

/-- The increment of a grant to `n` (R29). -/
def State.increment (s : State) (n : Slot) : Nat :=
  let w := (s.profile n).power
  if (s.slot n).state = .slumber then w.awake - w.standby else w.awake

/-! ## Records -/

/-- The DONE record of a response item, if it is one. -/
def ResponseItem.record? : ResponseItem → Option Record
  | .immediate _ => none
  | .record r => some r

/-- The live records: those of the slot queues, and the DONE records whose responses wait (R69, R93). -/
def State.liveRecords (s : State) : List Record := s.queues.toList.flatten ++ s.responses.filterMap ResponseItem.record?

/-- How many records are live (R70). -/
def State.liveTotal (s : State) : Nat := s.liveRecords.length

/-- A requester's live count (R77). -/
def State.liveCount (s : State) (r : Requester) : Nat := s.liveRecords.countP (fun x => x.owner == .requester r)

/-- A live record has this requester and tag (R73). -/
def State.tagInUse (s : State) (r : Requester) (t : Byte) : Bool :=
  s.liveRecords.any (fun x => x.owner == .requester r && x.tag == some t)

/-- The requester records of a slot (R78). -/
def State.requesterRecords (s : State) (n : Slot) : Nat := (s.queue n).countP (fun x => x.owner != .attention)

/-- The record of a slot that its data exchange carries: the DISPATCHED head (R82). -/
def State.dispatchedRecord (s : State) (n : Slot) : Option Record := (s.queue n).head?.filter (fun r => r.state == .dispatched)

/-- The highest level among a slot's records (R34). -/
def State.workLevel (s : State) (n : Slot) : Level := (s.queue n).foldl (fun l r => higherLevel l r.level) .normal

/-- The head a slot offers for dispatch: QUEUED, while the slot is AWAKE (R83). -/
def State.offeredHead (s : State) (n : Slot) : Option Record :=
  if (s.slot n).state = .awake then (s.queue n).head?.filter (fun r => r.state == .queued) else none

/-- The Unit Map entry that holds a unit number, with its index: an exact match among the valid entries (R135). -/
def State.lookup (s : State) (unit : Nat) : Option (Nat × UnitEntry) :=
  (s.unitMap.toList.zipIdx.find? (fun p => p.1.valid && p.1.number == unit)).map (fun p => (p.2, p.1))

/-! ## The wake list -/

/-- The wake list entry of a slot. -/
def State.wakeEntry (s : State) (n : Slot) : Option WakeEntry := s.wake.find? (fun e => e.slot == n)

/-- A slot is listed. -/
def State.listed (s : State) (n : Slot) : Bool := s.wake.any (fun e => e.slot == n)

/-- Arbiter order (R39). -/
def State.arbiterOrder (s : State) : List WakeEntry :=
  s.wake.filter (fun e => e.level == .urgent) ++ s.wake.filter (fun e => e.level == .normal)

/-- Which entries may be granted (R38). -/
def State.eligible (s : State) (e : WakeEntry) : Bool :=
  (s.profile e.slot).power.present && (match s.budget.gate with
    | .opened => true
    | .priority => e.level == .urgent
    | .held => false)

/-- An entry fits: its increment, added to committed weight, is within the effective limit (R42, R48). -/
def State.fits (s : State) (e : WakeEntry) : Bool := s.committed + s.increment e.slot ≤ s.effectiveLimit

/-! ## Eviction candidates -/

/-- The conditions of R44 but the pin (R62 speaks of an idle pinned slot in the same way). -/
def State.idleSlot (s : State) (n : Slot) : Bool :=
  ((s.slot n).state == .awake || (s.slot n).idleDraining) && (s.queue n).isEmpty && !s.inFlight n &&
    (s.att n).phase != .fetching

/-- An eviction candidate (R44). -/
def State.candidate (s : State) (n : Slot) : Bool := s.idleSlot n && !(s.slot n).pin

/-- What evicting a candidate gives back: by the target of its IDLE drain, or by its rest mode (R45). -/
def State.candidateRelease (s : State) (n : Slot) : Nat :=
  let r := s.slot n
  r.releaseTo (match r.drain with
    | some d => d.target
    | none => (s.profile n).power.restMode)

/-! ## The conditions of the idle hold -/

/-- The conditions of R11 under which the idle hold runs, with `hold` the value to load. A warm restart that waits loads no
countdown (R26). -/
def State.idleHoldDue (s : State) (n : Slot) (hold : Nat) : Bool :=
  (s.slot n).state == .awake && !(s.slot n).pin && (s.queue n).isEmpty && !s.inFlight n && hold != 0 && !s.restarting

/-! ## Due events that the state itself shows -/

/-- A FREE immediate entry, the lowest-numbered one (R178, log entry 8). -/
def State.freeEntry (s : State) : Option (Fin 16) := (List.finRange 16).find? (fun i => s.immediate[i] == .free)

/-- A chain selection can be taken: the chain is FREE and stopped is clear (R108, log entry 9). -/
def State.selectionOpen (s : State) : Bool := s.running && s.exchange.isNone && !s.stopped

/-- The notice that is in transmission is the head of the queue (R167). -/
def State.noticesInTransmission (s : State) : Nat :=
  match s.transmitter with
  | .notice _ => 1
  | .response _ => 0
  | .idle => 0

/-- The notice queue holds a waiting head: one that is not in transmission (R167). -/
def State.noticeWaiting (s : State) : Bool := s.noticesInTransmission < s.notices.length

end Sys2Proof.Machine
end

