-- ==== Sys2Proof/Machine/Ops.lean ====
section
/-! DEFINITION. The shared operations: raising notices, marking events due, changing a slot's state, wake reasons, attention
actions, records joining and leaving queues, rest, faults, and the part that ends every event. -/

namespace Sys2Proof.Machine

/-! ## Notices (chapter 9) -/

/-- A notice without optional fields, stamped with the time base. -/
def State.blankNotice (s : State) (kind : NoticeKind) : Notice :=
  { kind := kind, stamp := s.timeBase, slot := none, requesterTag := none, unit := none, cause := none, count := 0, data := [] }

/-- Drop a notice: the first drop since the count was 0 stamps the loss, and every drop is counted (R169). -/
def State.dropNotice (s : State) : State :=
  { s with firstLoss := if s.lostCount = 0 then s.timeBase else s.firstLoss, lostCount := min 255 (s.lostCount + 1) }

/-- Raise a notice that does not coalesce: a new entry at the tail, or a drop where the queue is full (R168). -/
def State.raise (s : State) (n : Notice) : State :=
  if s.notices.length < Config.noticeQueueSize then { s with notices := s.notices ++ [n] } else s.dropNotice

/-- Fold an occurrence at `now` into the first notice of a kind (R168). -/
def coalesceInto (kind : NoticeKind) (now : Stamp) : List Notice → List Notice
  | [] => []
  | n :: rest =>
    if n.kind = kind then { n with count := min 255 (n.count + 1), data := word32 now } :: rest
    else n :: coalesceInto kind now rest

/-- Raise LINK_CHECK or INGRESS_OVERRUN: coalesce into the waiting entry of the kind, else as any other notice (R168). -/
def State.raiseLink (s : State) (kind : NoticeKind) : State :=
  let k := s.noticesInTransmission
  if (s.notices.drop k).any (fun n => n.kind == kind) then
    { s with notices := s.notices.take k ++ coalesceInto kind s.timeBase (s.notices.drop k) }
  else s.raise { s.blankNotice kind with count := 1, data := word32 s.timeBase }

/-! ## Due evaluations and passes -/

/-- Make an evaluation due; while shedding is active it is dropped (R40, R55). -/
def State.markEvaluation (s : State) : State := if s.sheds then s else { s with evaluationDue := true }

/-- Make a selection pass due while shedding is active; while a restart waits it is dropped (R56, R67). -/
def State.markPass (s : State) : State := if s.sheds && !s.restarting then { s with passDue := true } else s

/-! ## Shedding edges (R54, R65, R66) -/

/-- The data of SHED_START and SHED_END: the effective limit and committed weight (R66). -/
def State.shedData (s : State) : List Byte := word16 s.effectiveLimit ++ word16 s.committed

/-- Shedding becomes active (R54). An evaluation that was due is dropped (R40 and R55, as log entry 19 reads them, DEDUCED). -/
def State.activateShedding (s : State) (c : ActivationCause) : State :=
  State.markPass
    (({ s with shedding := { active := some c, victims := 0 }, evaluationDue := false } : State).raise
      { s.blankNotice .shedStart with cause := some (.shedStart c), data := s.shedData })

/-- Shedding ends (R65): active clears, SHED_END is raised, an evaluation becomes due. -/
def State.endShedding (s : State) (c : ShedEndCause) : State :=
  State.markEvaluation
    (({ s with shedding := { s.shedding with active := none }, passDue := false } : State).raise
      { s.blankNotice .shedEnd with cause := some (.shedEnd c), count := s.shedding.victims, data := s.shedData })

/-- The effective limit has been set anew, `old` being its value before; `cause` says by what (R32, R64, R150). A write of
Budget Settings makes an evaluation due whatever its values (R30). -/
def State.limitSet (s : State) (old : Nat) (cause : ActivationCause) : State :=
  let now := s.effectiveLimit
  if s.sheds then
    if now = old then s
    else if old < now ∧ s.committed ≤ now then s.endShedding .limitRaise
    else s.markPass
  else if now < s.committed then s.activateShedding cause
  else if cause = .limitWrite ∨ old < now then s.markEvaluation
  else s

/-! ## The wake list (R33 to R37) -/

/-- Add a reason to a set. -/
def ReasonSet.add (r : ReasonSet) : WakeReason → ReasonSet
  | .work => { r with work := true }
  | .attention => { r with attention := true }
  | .managed => { r with managed := true }
  | .pin => { r with pin := true }

/-- Take a reason out of a set. -/
def ReasonSet.drop (r : ReasonSet) : WakeReason → ReasonSet
  | .work => { r with work := false }
  | .attention => { r with attention := false }
  | .managed => { r with managed := false }
  | .pin => { r with pin := false }

/-- No reason. -/
def ReasonSet.none : ReasonSet := { work := false, attention := false, managed := false, pin := false }

/-- A resting slot gains a wake reason at a level (R34): a new entry, or the reason and the level brought to its entry (R35,
R36). A new entry, and a rise of the level, make an evaluation due. -/
def State.gainReason (s : State) (n : Slot) (why : WakeReason) (level : Level) : State :=
  match s.wakeEntry n with
  | none =>
    ({ s with
        wake := s.wake ++ [{ slot := n, join := s.joinCounter, level := level, reasons := ReasonSet.none.add why, passed := 0 }]
        joinCounter := s.joinCounter + 1 } : State).markEvaluation
  | some e =>
    let e' : WakeEntry := { e with reasons := e.reasons.add why, level := higherLevel e.level level }
    let s' : State := { s with wake := s.wake.map (fun x => if x.slot = n then e' else x) }
    if e'.level = e.level then s' else s'.markEvaluation

/-- Remove a slot's entry other than by a grant; the removal of an entry makes an evaluation due (R37). -/
def State.removeEntry (s : State) (n : Slot) : State :=
  if s.listed n then ({ s with wake := s.wake.filter (fun e => e.slot != n) } : State).markEvaluation else s

/-- Withdraw a reason; an entry left with no reason is removed (R37). -/
def State.withdrawReason (s : State) (n : Slot) (why : WakeReason) : State :=
  match s.wakeEntry n with
  | none => s
  | some e =>
    if e.reasons.drop why = ReasonSet.none then s.removeEntry n
    else { s with wake := s.wake.map (fun x => if x.slot = n then { x with reasons := x.reasons.drop why } else x) }

/-! ## Changing a slot's state -/

/-- The SLOT_STATE notice of a change to `new`, when the slot reports its transitions (R25). `extra` is what R25 adds to the
previous state. -/
def State.reportChange (s : State) (n : Slot) (new : SlotState) (extra : List Byte) : State :=
  if (s.profile n).report then
    s.raise { s.blankNotice .slotState with
      slot := some n, cause := some (.state new), data := slotStateCode (s.slot n).state :: extra }
  else s

/-- A slot record on a change of state: the SEN line follows the state (R3), both countdowns stop (R4), and the marks that
belong to the state left are cleared (R1); the drain is kept from DRAINING to SETTLING only. -/
def SlotRecord.changed (r : SlotRecord) (new : SlotState) : SlotRecord :=
  { r with state := new, sen := new.powered, drain := if new = .settling then r.drain else none, switchOff := none,
           timedOut := none, step := none, limit := none }

/-- The use-order list on a change of state (R18). -/
def useOrderAfter (order : List Slot) (n : Slot) (old new : SlotState) : List Slot :=
  match new with
  | .awake => if old = .draining then order else order.filter (· != n) ++ [n]
  | .settling => order.filter (· != n)
  | .off => order.filter (· != n)
  | .faulted => order.filter (· != n)
  | .powering => order
  | .slumber => order
  | .waking => order
  | .draining => order

/-- A fall of a slot's charge from `old` to `new` is a release: it lowers committed weight and makes an evaluation due (R2,
R27, R40). -/
def State.release (s : State) (old new : Nat) : State :=
  if new < old then ({ s with committed := s.committed - (old - new) } : State).markEvaluation else s

/-- A slot reaches rest or FAULTED and leaves the eviction set; the last to leave makes an evaluation due (R46). -/
def State.leaveEvictionSet (s : State) (n : Slot) : State :=
  if n ∈ s.evictionSet then
    let s' : State := { s with evictionSet := s.evictionSet.filter (· != n) }
    if s'.evictionSet = [] then s'.markEvaluation else s'
  else s

/-- One change of a slot's state, with all that every such change does: the SLOT_STATE notice (R25), the slot record, the
use-order list (R18), the control exchanges the old state asked for (R106), the release (R2), and the eviction set (R46). -/
def State.changeState (s : State) (n : Slot) (new : SlotState) (extra : List Byte) : State :=
  let old := s.slot n
  let s1 := s.reportChange n new extra
  let s2 : State :=
    { s1.setSlot n (old.changed new) with
      useOrder := useOrderAfter s1.useOrder n old.state new
      control := s1.control.filter (fun c => c.slot != n) }
  let s3 := s2.release old.charge (old.changed new).charge
  if new = .slumber ∨ new = .off ∨ new = .faulted then s3.leaveEvictionSet n else s3

/-! ## Countdowns -/

/-- Change the slot record of `n` by a function. -/
def State.updateSlot (s : State) (n : Slot) (f : SlotRecord → SlotRecord) : State := s.setSlot n (f (s.slot n))

/-- Change the attention record of `n` by a function. -/
def State.updateAtt (s : State) (n : Slot) (f : AttentionRecord → AttentionRecord) : State := s.setAtt n (f (s.att n))

/-- A control exchange joins the tail of the control-exchange queue (R104); while the chain is stopped it is discarded as it
would join (R115). -/
def State.askControl (s : State) (n : Slot) (command : ChainCommand) : State :=
  if s.stopped then s else { s with control := s.control ++ [{ slot := n, command := command }] }

/-- Load the step countdown with a delay or the poll interval. A time of 0 expires at once, and its IDENTIFY joins the queue
in the same event (R5, R6, log entry 17). While a restart waits, nothing is loaded (R26). -/
def State.loadPoll (s : State) (n : Slot) (purpose : StepPurpose) (ms : Nat) : State :=
  if s.restarting then s
  else if ms = 0 then s.askControl n .identify
  else s.updateSlot n (fun r => { r with step := some { purpose := purpose, ms := ms } })

/-- Start the idle hold if its conditions hold (R11). -/
def State.startIdleHold (s : State) (n : Slot) : State :=
  let hold := (s.profile n).idleHold
  if s.idleHoldDue n hold then s.updateSlot n (fun r => { r with step := some { purpose := .idleHold, ms := hold } }) else s

/-- Stop the step countdown. -/
def State.stopStep (s : State) (n : Slot) : State := s.updateSlot n (fun r => { r with step := none })

/-! ## Attention actions (chapter 6) -/

/-- Raise the ATTENTION notice of a slot, with its repeat count (R122). -/
def State.raiseAttention (s : State) (n : Slot) (status : Status) (data : List Byte) : State :=
  s.raise { s.blankNotice .attention with
    slot := some n, cause := some (.status status), count := (s.att n).repeatCount, data := data }

/-- The attention record after its action's notice (R119, R120). In LEVEL mode with the line sensed active, pending stays set
and the holdoff starts, unless SLOT OFF raised the notice (R128). The sense mode is the one last
read, since R131 reads it at no notice (log entry 10). -/
def AttentionRecord.afterNotice (a : AttentionRecord) (p : Profile) (mayHoldOff : Bool) : AttentionRecord :=
  if a.senseRead = some .level ∧ a.sensing = true ∧ a.lastLevel = some true then
    if mayHoldOff then { a with pending := true, repeatCount := 0, phase := .holdoff, holdoff := some p.holdoff }
    else { a with pending := true, repeatCount := 0, phase := .idle, holdoff := none }
  else { a with pending := false, repeatCount := 0, phase := .idle, holdoff := none }

/-- An attention action ends in its notice (R121, R122). -/
def State.endAction (s : State) (n : Slot) (status : Status) (data : List Byte) (mayHoldOff : Bool) : State :=
  (s.raiseAttention n status data).updateAtt n (fun a => a.afterNotice (s.profile n) mayHoldOff)

/-- Clear the pending flag, the repeat count and the phase, and stop the holdoff. -/
def AttentionRecord.cleared (a : AttentionRecord) : AttentionRecord :=
  { a with pending := false, repeatCount := 0, phase := .idle, holdoff := none }

/-- The attention fetch of `n` has completed (R126). While a restart waits it is taken without a notice (R129). -/
def State.fetchDone (s : State) (n : Slot) (status : Status) (data : List Byte) (mayHoldOff : Bool) : State :=
  if s.restarting then s.updateAtt n AttentionRecord.cleared else s.endAction n status data mayHoldOff

/-- The attention work of a slot that enters OFF ends (R127). A queued fetch stays, and with it phase FETCHING. While a restart
waits, only the sensing ends (R129, log entry 12). -/
def State.attentionAtOff (s : State) (n : Slot) : State :=
  let a := s.att n
  if s.restarting then s.updateAtt n (fun x => { x with sensing := false, lastLevel := none, senseRead := none })
  else
    let s1 := match a.phase with
      | .waitingRecord => ({ s with claims := s.claims.filter (· != n) } : State).raiseAttention n .aborted []
      | .waitingAwake => (s.withdrawReason n .attention).raiseAttention n .aborted []
      | .idle => s
      | .holdoff => s
      | .fetching => s
    s1.setAtt n { AttentionRecord.reset with phase := if a.phase = .fetching then .fetching else .idle }

/-- The attention work of a slot that enters FAULTED ends, its records having completed before (R127, R90). While a restart
waits no notice is raised (R129, log entry 12). -/
def State.attentionAtFault (s : State) (n : Slot) : State :=
  let s1 := match (s.att n).phase with
    | .waitingRecord => if s.restarting then s else s.raiseAttention n .slotFaulted []
    | .waitingAwake => if s.restarting then s else s.raiseAttention n .slotFaulted []
    | .idle => s
    | .holdoff => s
    | .fetching => s
  { s1.setAtt n AttentionRecord.reset with claims := s1.claims.filter (· != n) }

/-! ## Records -/

/-- The WRITE_LOST notice of a posted write that completed with a status other than OK (R89). -/
def State.writeLost (s : State) (r : Record) (status : Status) : State :=
  s.raise { s.blankNotice .writeLost with
    slot := some r.slot
    requesterTag := match r.owner, r.tag with
      | .requester q, some t => some (q, t)
      | _, _ => none
    unit := r.unit
    cause := some (.status status) }

/-- A record completes with a status and, for OK, the data read; it has left its slot's queue (R87). A READ or WRITE joins the
response queue, a posted write is freed, and a fetch is handed to the Attention Unit and freed. -/
def State.handOff (s : State) (r : Record) (status : Status) (data : List Byte) (mayHoldOff : Bool) : State :=
  match r.owner with
  | .attention => s.fetchDone r.slot status (if status = .ok then data else []) mayHoldOff
  | .requester _ =>
    match r.op with
    | .writePosted => if status = .ok then s else s.writeLost r status
    | .read =>
      { s with responses := s.responses ++
          [.record { r with state := .done, deadline := none, status := some status,
                            readData := if status = .ok then some data else none }] }
    | .write =>
      { s with responses := s.responses ++ [.record { r with state := .done, deadline := none, status := some status }] }

/-- Several records of a slot complete without data, in order; `statusOf` gives each its status. -/
def State.completeAll (s : State) (rs : List Record) (statusOf : Record → Status) (mayHoldOff : Bool) : State :=
  rs.foldl (fun s r => s.handOff r (statusOf r) [] mayHoldOff) s

/-- An IDLE drain is cancelled (R15): the queued SLUMBER is discarded and the slot returns to AWAKE in its place of the
use-order list. A WAKE_NOTIFY action that waits for AWAKE is reported (R124), except while a restart waits (R129). -/
def State.cancelDrain (s : State) (n : Slot) : State :=
  let s1 := s.changeState n .awake []
  if (s1.att n).phase = .waitingAwake ∧ s1.restarting = false then s1.endAction n .ok [] true else s1

/-- A record joins the tail of its slot's queue, and acts on the slot by its state (R81). -/
def State.joinQueue (s : State) (n : Slot) (r : Record) : State :=
  let s1 := s.setQueue n (s.queue n ++ [r])
  match (s1.slot n).state with
  | .awake => s1.stopStep n
  | .draining => if (s1.slot n).idleDraining then s1.cancelDrain n else s1
  | .off => s1.gainReason n .work (s1.workLevel n)
  | .slumber => s1.gainReason n .work (s1.workLevel n)
  | .powering => s1
  | .waking => s1
  | .settling => s1
  | .faulted => s1

/-- The attention fetch of a slot, from its profile as it stands (R68, R125). -/
def State.fetchRecord (s : State) (n : Slot) : Record :=
  let p := s.profile n
  { owner := .attention, tag := none, unit := none, slot := n, op := .read, address := p.fetchOffset, length := p.fetchLength,
    writeData := none, readData := none, level := p.attentionLevel, deadline := none, state := .queued, attempt := 0,
    status := none }

/-- The attention fetch of a slot is created and joins its queue; the phase becomes FETCHING (R125). -/
def State.createFetch (s : State) (n : Slot) : State :=
  let s1 := s.updateAtt n (fun a => { a with phase := .fetching })
  s1.joinQueue n (s1.fetchRecord n)

/-- Freed records go to the fetch claims, oldest first, as long as the pool has one (R79). It is taken at the end of the event
that freed them (log entry 16). -/
def State.serveClaims (s : State) : State :=
  let k := Config.poolSize - s.liveTotal
  (s.claims.take k).foldl (fun s n => s.createFetch n) { s with claims := s.claims.drop k }

/-- An action starts from phase IDLE: the first step of the action in force (R121, R123, R125). -/
def State.startAction (s : State) (n : Slot) : State :=
  let p := s.profile n
  match p.action with
  | .ignore => s
  | .notify => s.endAction n .ok [] true
  | .wakeNotify =>
    match (s.slot n).state with
    | .awake => s.endAction n .ok [] true
    | .slumber =>
      (s.updateAtt n (fun a => { a with phase := .waitingAwake })).gainReason n .attention p.attentionLevel
    | .off => s.updateAtt n (fun a => { a with phase := .waitingAwake })
    | .powering => s.updateAtt n (fun a => { a with phase := .waitingAwake })
    | .waking => s.updateAtt n (fun a => { a with phase := .waitingAwake })
    | .draining => s.updateAtt n (fun a => { a with phase := .waitingAwake })
    | .settling => s.updateAtt n (fun a => { a with phase := .waitingAwake })
    | .faulted => s.updateAtt n (fun a => { a with phase := .waitingAwake })
  | .fetch =>
    if s.liveTotal < Config.poolSize then s.createFetch n
    else { s.updateAtt n (fun a => { a with phase := .waitingRecord }) with claims := s.claims ++ [n] }

/-- An activation of a slot's line (R119, R120): it starts the action in force, or counts as a repeat of the one in progress. -/
def State.activation (s : State) (n : Slot) : State :=
  match (s.att n).phase with
  | .idle =>
    if (s.profile n).action = .ignore then s else (s.updateAtt n (fun a => { a with pending := true })).startAction n
  | .holdoff => s
  | .waitingRecord => s.updateAtt n (fun a => { a with pending := true, repeatCount := min 255 (a.repeatCount + 1) })
  | .fetching => s.updateAtt n (fun a => { a with pending := true, repeatCount := min 255 (a.repeatCount + 1) })
  | .waitingAwake => s.updateAtt n (fun a => { a with pending := true, repeatCount := min 255 (a.repeatCount + 1) })

/-! ## Coming to rest -/

/-- The wake reasons a slot gains in the event in which it reaches rest (R16): WORK for a queue that is not empty, and PIN for
a set pin flag unless the rest is one of R16's exceptions. -/
def State.gainAtRest (s : State) (n : Slot) (exempt : Bool) : State :=
  let s1 := if (s.queue n).isEmpty then s else s.gainReason n .work (s.workLevel n)
  if (s1.slot n).pin ∧ exempt = false then s1.gainReason n .pin .urgent else s1

/-- A slot enters OFF (R14, R17, R19): its state changes, its attention work ends, and it gains the wake reasons of rest. -/
def State.enterOff (s : State) (n : Slot) (exempt : Bool) : State :=
  ((s.changeState n .off []).attentionAtOff n).gainAtRest n exempt

/-- A slot enters SLUMBER from SETTLING (R17); a WAKE_NOTIFY action that waits gives it reason ATTENTION (R124). -/
def State.enterSlumber (s : State) (n : Slot) (exempt : Bool) : State :=
  let s1 := (s.changeState n .slumber []).gainAtRest n exempt
  if (s1.att n).phase = .waitingAwake then s1.gainReason n .attention (s1.profile n).attentionLevel else s1

/-- The drain causes whose rest gives no reason PIN: REST and OFFCMD (R16). -/
def restExempt : DrainCause → Bool
  | .rest => true
  | .offcmd => true
  | .idle => false
  | .evict => false
  | .shed => false

/-- A slot in DRAINING moves towards rest as soon as no exchange for it is in flight (R14): to OFF, or by asking for a SLUMBER
exchange. -/
def State.towardsRest (s : State) (n : Slot) : State :=
  match (s.slot n).state, (s.slot n).drain, s.inFlight n with
  | .draining, some d, false =>
    match d.target with
    | .off => s.enterOff n (restExempt d.cause)
    | .slumber => s.askControl n .slumber
  | _, _, _ => s

/-- A drain starts on an AWAKE slot (R13). -/
def State.startDrain (s : State) (n : Slot) (cause : DrainCause) (target : RestMode) : State :=
  ((s.changeState n .draining [drainCauseCode cause]).updateSlot n
    (fun r => { r with drain := some { cause := cause, target := target } })).towardsRest n

/-- An IDLE drain gets another cause and keeps its target (R15). -/
def State.convertDrain (s : State) (n : Slot) (cause : DrainCause) : State :=
  s.updateSlot n (fun r => { r with drain := r.drain.map (fun d => { d with cause := cause }) })

/-- A switch-off reaches a slot in POWERING, WAKING or SLUMBER (R19). -/
def State.switchOff (s : State) (n : Slot) (kind : SwitchOffKind) : State :=
  if (s.slot n).state ≠ .slumber ∧ s.inFlight n = true then
    s.updateSlot n (fun r => { r with step := none, limit := none, timedOut := none, switchOff := some kind })
  else s.enterOff n (kind == .offcmd)

/-! ## Slot faults -/

/-- The fault record takes a fault (R173): it latches the empty record with a new serial, or counts an overflow. -/
def FaultRecord.take (f : FaultRecord) (l : LatchedFault) : FaultRecord :=
  match f.latched with
  | none => { latched := some l, serial := f.serial + 1, overflow := 0 }
  | some _ => { f with overflow := min 255 (f.overflow + 1) }

/-- A slot fault reaches the Report Unit: first the record, then the notice (R173). -/
def State.reportFault (s : State) (n : Slot) (kind : FaultKind) (who : Option (Requester × Byte)) (notice : NoticeKind)
    (cause : Cause) : State :=
  let f := s.fault.take { kind := kind, slot := n, stamp := s.timeBase, requesterTag := who }
  ({ s with fault := f } : State).raise
    { s.blankNotice notice with
      slot := some n, requesterTag := who, cause := some cause, count := f.overflow,
      data := [f.serial, if s.fault.latched.isNone then 0x01 else 0x00] }

/-- The requester and tag a FAULT_THRESHOLD fault notes: those of the record in flight, where a requester owns it (R173). -/
def State.inFlightOwner (s : State) (n : Slot) : Option (Requester × Byte) :=
  match s.dispatchedRecord n with
  | some r => match r.owner, r.tag with
    | .requester q, some t => some (q, t)
    | _, _ => none
  | none => none

/-- The status of a record of a slot that enters FAULTED: the DISPATCHED record is the one whose attempt caused the fault
(R90). -/
def faultStatus (r : Record) : Status := if r.state = .dispatched then .noReply else .slotFaulted

/-- A slot enters FAULTED (R22): the change of state, its wake list entry, its records in queue order, its attention work, and
the fault with its notice. Sensing has ended when the fetch completes (R127). -/
def State.enterFaulted (s : State) (n : Slot) (kind : FaultKind) : State :=
  let who := if kind = .faultThreshold then s.inFlightOwner n else none
  let rs := s.queue n
  let s1 := (s.changeState n .faulted []).removeEntry n
  let s2 := (s1.updateAtt n (fun a => { a with sensing := false, lastLevel := none, senseRead := none })).setQueue n []
  let s3 := (s2.completeAll rs faultStatus true).attentionAtFault n
  s3.reportFault n kind who .slotFaulted (.fault kind)

/-! ## Immediate responses -/

/-- Whom a taken frame is answered to, and the immediate entry reserved for it (R178). -/
structure Taken where
  entry : Fin 16
  requester : Requester
  tag : Byte
deriving DecidableEq, Repr

/-- The reserved entry becomes READY with the response and joins the response queue (R178, R179). -/
def State.respond (s : State) (c : Taken) (status : Status) (contents : List Byte) : State :=
  { s with
    immediate := s.immediate.set c.entry
      (.ready { requester := c.requester, tag := c.tag, status := status, contents := contents })
    responses := s.responses ++ [.immediate c.entry] }

/-! ## The end of an event -/

/-- A slot became an eviction candidate in the event from `s` to `t`. R44 counts among these events the idle-hold expiry that
starts an IDLE drain with target SLUMBER, though an AWAKE slot can meet the conditions before it. -/
def newCandidate (s t : State) : Bool :=
  allSlots.any (fun n => t.candidate n && (!s.candidate n || ((t.slot n).idleDraining && !(s.slot n).idleDraining)))

/-- The event from `s` to `t` changed committed weight, a slot's state or a slot's pending release (R56). -/
def courseChanged (s t : State) : Bool :=
  s.committed != t.committed || allSlots.any (fun n =>
    (s.slot n).state != (t.slot n).state || (s.slot n).pendingRelease != (t.slot n).pendingRelease)

/-- What ends every event that can act on slots or records, from the state `s` before it: freed records go to the claims
(R79), a new candidate makes an evaluation due (R40, R44), a changed course makes a selection pass due (R56), and a release
that brought committed weight within the limit ends shedding, its notice behind every other notice of the event (R65). -/
def State.finish (s t : State) : State :=
  let t1 := t.serveClaims
  let t2 := if newCandidate s t1 then t1.markEvaluation else t1
  let t3 := if courseChanged s t2 then t2.markPass else t2
  if t3.sheds ∧ t3.committed < s.committed ∧ t3.committed ≤ t3.effectiveLimit then t3.endShedding .release else t3

/-- An event that is due takes place and ends; one that is not due leaves the state as it is (log entry 2). -/
def event (due : Bool) (s : State) (effect : State → State) : Host.Outcome State Fault Refusal :=
  .next (if due then s.finish (effect s) else s)

/-- An event that acts on no slot, record or weight, so that nothing is left to end. -/
def quietEvent (due : Bool) (s : State) (effect : State → State) : Host.Outcome State Fault Refusal :=
  .next (if due then effect s else s)

end Sys2Proof.Machine
end

