-- ==== Sys2Proof/Machine/Attention.lean ====
section
/-! DEFINITION. The Attention Unit's own events: a change of a line, and the end of a holdoff. -/

namespace Sys2Proof.Machine

/-- A deactivation in LEVEL mode, by the phase (R120, R124). In FETCHING the fetch runs on. -/
def State.deactivation (s : State) (n : Slot) : State :=
  match (s.att n).phase with
  | .idle => s.updateAtt n (fun a => { a with pending := false })
  | .holdoff => s.updateAtt n AttentionRecord.cleared
  | .waitingRecord => ({ s with claims := s.claims.filter (· != n) } : State).updateAtt n AttentionRecord.cleared
  | .waitingAwake => (s.withdrawReason n .attention).updateAtt n AttentionRecord.cleared
  | .fetching => s.updateAtt n (fun a => { a with pending := false })

/-- A change of a sensed line: the new level is the last level, and the sense mode, read here (R131), says what it does (R119,
R120). -/
def State.lineChange (s : State) (n : Slot) (active : Bool) : State :=
  let s1 := s.updateAtt n (fun a => { a with lastLevel := some active, senseRead := some (s.profile n).sense })
  match active, (s.profile n).sense with
  | true, _ => s1.activation n
  | false, .edge => s1
  | false, .level => s1.deactivation n

/-- The line of `n` is sensed, and its changes are taken: not in the hold (R190), not while a restart waits (R129). -/
def State.senses (s : State) (n : Slot) : Bool := s.running && (s.att n).sensing && !s.restarting

/-- ATN_CHANGE (R118): the pin changes, and a sensed line's change is taken. A command that repeats the present level is no
change (log entry 2). -/
def execAtnChange (n : Slot) (active : Bool) (s : State) : Host.Outcome State Fault Refusal :=
  let s1 : State := { s with atnLines := s.atnLines.set n active }
  if s.atnLines[n] = active then .next s
  else if s.senses n = true then .next (s1.finish (s1.lineChange n active))
  else .next s1

/-- The holdoff of `n` runs. -/
def State.holdoffDue (s : State) (n : Slot) : Bool :=
  s.running && (s.att n).holdoff.isSome && (s.att n).phase == .holdoff

/-- ATTENTION_HOLDOFF_EXPIRY (R120): the sense mode and the action in force are read (R131). The action runs again if the mode is
still LEVEL and the action is not IGNORE; otherwise pending clears. -/
def execAttentionHoldoffExpiry (n : Slot) (s : State) : Host.Outcome State Fault Refusal :=
  event (s.holdoffDue n) s (fun s =>
    let s1 := s.updateAtt n (fun a => { a with senseRead := some (s.profile n).sense })
    if (s.profile n).sense = .level ∧ (s.profile n).action ≠ .ignore then
      (s1.updateAtt n (fun a => { a with pending := true, phase := .idle, holdoff := none })).startAction n
    else s1.updateAtt n AttentionRecord.cleared)

end Sys2Proof.Machine
end

