-- ==== Sys2Proof/Machine/Residency.lean ====
section
/-! DEFINITION. The Residency Controller's own events: grants delivered, control exchanges that end, and the countdowns of a
slot. -/

namespace Sys2Proof.Machine

/-- A power-up grant reaches a slot in OFF (R5). -/
def State.powerUpGrant (s : State) (n : Slot) : State :=
  let w := (s.profile n).power
  let s1 := s.updateSlot n (fun r => { r with grantedAwake := w.awake, grantedStandby := w.standby })
  let s2 := (s1.changeState n .powering []).updateSlot n (fun r => { r with limit := some w.powerUpTimeout })
  s2.loadPoll n .powerUpDelay w.powerUpDelay

/-- A wake grant reaches a slot in SLUMBER (R9). -/
def State.wakeGrant (s : State) (n : Slot) : State :=
  let w := (s.profile n).power
  let s1 := s.changeState n .waking []
  let s2 := s1.updateSlot n
    (fun r => { r with grantedAwake := w.awake, grantedStandby := w.standby, limit := some w.wakeTimeout })
  s2.askControl n .wake

/-- Attention sensing begins as a slot enters AWAKE from POWERING: the line's present level is the last level, the sense mode is read
(R131), and in LEVEL mode an active line is an assertion (R118). While a restart waits no action starts (R129). -/
def State.beginSensing (s : State) (n : Slot) : State :=
  let s1 := s.updateAtt n (fun a => { a with
    sensing := true, lastLevel := some s.atnLines[n], senseRead := some (s.profile n).sense })
  if (s1.profile n).sense = .level ∧ s.atnLines[n] = true ∧ s.restarting = false then s1.activation n else s1

/-- A slot enters AWAKE from POWERING or WAKING (R10). Its SLOT_STATE is raised first, before the ATTENTION of an action that waited
(R124, R168), and before that of an action which the start of sensing starts: for this no rule gives an order (DESIGN CHOICE, log
entry 13). `identity` is the module type and revision of the matching reply; a
WAKE_NOTIFY action that waited is reported (R124), except while a restart waits (R129). -/
def State.enterAwake (s : State) (n : Slot) (identity : List Byte) : State :=
  let old := (s.slot n).state
  let s1 := s.changeState n .awake identity
  let s2 := if old = .powering then s1.beginSensing n
    else if (s1.att n).phase = .waitingAwake ∧ s1.restarting = false then s1.endAction n .ok [] true
    else s1
  s2.startIdleHold n

/-- An IDENTIFY reply answered DONE matches the profile: its type equals the expected one, or 0 is expected (R7). -/
def identityMatches (expected : Nat) : List Byte → Bool
  | t1 :: t0 :: _ => expected == 0 || readWord16 t1 t0 == expected
  | _ => false

/-- The end of an IDENTIFY exchange (R7), with a switch-off pending (R19) or a timeout marked (R8) judged first. -/
def State.identifyEnd (s : State) (n : Slot) (o : AttemptOutcome) : State :=
  let r := s.slot n
  match r.switchOff with
  | some kind => s.enterOff n (kind == .offcmd)
  | none =>
    let expected := (s.profile n).power.moduleType
    match o with
    | .done data =>
      if identityMatches expected data then s.enterAwake n data
      else s.enterFaulted n (match r.timedOut with
        | some k => timeoutFault k
        | none => .typeMismatch)
    | _ =>
      match r.timedOut with
      | some k => s.enterFaulted n (timeoutFault k)
      | none => s.loadPoll n .pollInterval s.chain.pollInterval

/-- The end of a WAKE exchange that did not reach the fault threshold (R9): whatever its outcome the wake delay is loaded, unless
a switch-off is pending (R19) or a timeout is marked (R8). -/
def State.wakeEnd (s : State) (n : Slot) : State :=
  let r := s.slot n
  match r.switchOff, r.timedOut with
  | some kind, _ => s.enterOff n (kind == .offcmd)
  | none, some k => s.enterFaulted n (timeoutFault k)
  | none, none => s.loadPoll n .wakeDelay (s.profile n).power.wakeDelay

/-- The completion status, or SLUMBER_FAILED cause, of the final outcome of an exchange (R86, R173). -/
def outcomeStatus : AttemptOutcome → Status
  | .done _ => .ok
  | .refused => .moduleRefused
  | .failed => .moduleFailed
  | .notReady => .notReady
  | .timeout => .noReply
  | .checkError => .noReply

/-- The end of a SLUMBER exchange that did not reach the fault threshold (R17). -/
def State.slumberEnd (s : State) (n : Slot) (o : AttemptOutcome) : State :=
  match (s.slot n).drain with
  | none => s
  | some d =>
    match d.target, o with
    | .slumber, .done _ => s.enterSlumber n (restExempt d.cause)
    | .slumber, _ =>
      (s.enterOff n (restExempt d.cause)).reportFault n .slumberFailed none .slumberFailed (.status (outcomeStatus o))
    | .off, _ => s.enterOff n (restExempt d.cause)

/-! ## The countdowns of a slot -/

/-- A step countdown of a slot that comes up is running and can expire. A power-up delay at or beyond the power-up timeout does
not: the timeout expires before it (R8). -/
def State.pollDue (s : State) (n : Slot) : Bool :=
  let r := s.slot n
  s.running && r.state.comingUp && (match r.step with
    | none => false
    | some c => match c.purpose with
      | .powerUpDelay => match r.limit with
        | some t => c.ms < t
        | none => true
      | .wakeDelay => true
      | .pollInterval => true
      | .idleHold => false)

/-- STEP_COUNTDOWN_EXPIRY (R6): an IDENTIFY joins the control-exchange queue. -/
def execStepCountdownExpiry (n : Slot) (s : State) : Host.Outcome State Fault Refusal :=
  event (s.pollDue n) s (fun s => (s.stopStep n).askControl n .identify)

/-- The limit countdown of a slot runs. -/
def State.limitDue (s : State) (n : Slot) : Bool :=
  s.running && (s.slot n).state.comingUp && (s.slot n).limit.isSome

/-- Which timeout the limit countdown of a state is (R8). -/
def timeoutOf (st : SlotState) : TimeoutKind := if st = .waking then .wake else .powerUp

/-- LIMIT_COUNTDOWN_EXPIRY (R8): the slot faults, or, with its exchange in flight, is marked timed out. -/
def execLimitCountdownExpiry (n : Slot) (s : State) : Host.Outcome State Fault Refusal :=
  event (s.limitDue n) s (fun s =>
    let k := timeoutOf (s.slot n).state
    if s.inFlight n then s.updateSlot n (fun r => { r with limit := none, step := none, timedOut := some k })
    else s.enterFaulted n (timeoutFault k))

/-- The idle hold of an AWAKE slot runs. -/
def State.idleHoldRunning (s : State) (n : Slot) : Bool :=
  s.running && (s.slot n).state == .awake && (match (s.slot n).step with
    | some c => c.purpose == .idleHold
    | none => false)

/-- IDLE_HOLD_EXPIRY (R12): an IDLE drain towards the profile's rest mode starts. -/
def execIdleHoldExpiry (n : Slot) (s : State) : Host.Outcome State Fault Refusal :=
  event (s.idleHoldRunning n) s (fun s => s.startDrain n .idle (s.profile n).power.restMode)

end Sys2Proof.Machine
end

