-- ==== Sys2Proof/Machine/Budget.lean ====
section
/-! DEFINITION. The Budget Arbiter: the SUPPLY_LOW input, the evaluation, and load shedding. -/

namespace Sys2Proof.Machine

/-! ## SUPPLY_LOW (R31) -/

/-- The taken level becomes the pin level, where they differ (R31), and the effective limit may change with it (R32). -/
def State.takeSupplyLevel (s : State) : State :=
  if s.supplyTaken = s.supplyLowPin then s
  else ({ s with supplyTaken := s.supplyLowPin } : State).limitSet s.effectiveLimit .supplyLow

/-- SUPPLY_LOW_CHANGE (R31): the pin changes; a running hub loads the debounce countdown, or takes the level at once when the
debounce is 0. While the hub is held the change is not taken (R190). A command that repeats the present level is no change. -/
def execSupplyLowChange (asserted : Bool) (s : State) : Host.Outcome State Fault Refusal :=
  quietEvent (s.supplyLowPin != asserted) s (fun s =>
    let s1 : State := { s with supplyLowPin := asserted }
    if s.running then
      if s.budget.debounce = 0 then ({ s1 with debounce := none } : State).takeSupplyLevel
      else { s1 with debounce := some s.budget.debounce }
    else s1)

/-- SUPPLY_LOW_DEBOUNCE_EXPIRY (R31). -/
def execSupplyLowDebounceExpiry (s : State) : Host.Outcome State Fault Refusal :=
  quietEvent (s.running && s.debounce.isSome) s (fun s => ({ s with debounce := none } : State).takeSupplyLevel)

/-! ## Evaluation (R40 to R49) -/

/-- A grant (R42): committed weight rises by the increment, the entry is removed, and the slot receives its power-up or wake
grant. -/
def State.grant (s : State) (n : Slot) : State :=
  let s1 : State := { s with committed := s.committed + s.increment n, wake := s.wake.filter (fun e => e.slot != n) }
  match (s.slot n).state with
  | .off => s1.powerUpGrant n
  | .slumber => s1.wakeGrant n
  | .powering => s1
  | .waking => s1
  | .awake => s1
  | .draining => s1
  | .settling => s1
  | .faulted => s1

/-- The eligible entries in arbiter order; the first is the head (R41). -/
def State.eligibleOrder (s : State) : List WakeEntry := s.arbiterOrder.filter s.eligible

/-- The eviction candidates in use order (R45). -/
def State.evictionWalk (s : State) : List Slot := s.useOrder.filter s.candidate

/-- The shortest prefix of the walk whose releases make up at least `need` (R45); none where all together do not. -/
def shortestPrefix (releaseOf : Slot → Nat) : Nat → List Slot → Option (List Slot)
  | 0, _ => some []
  | _ + 1, [] => none
  | need + 1, n :: rest => (shortestPrefix releaseOf (need + 1 - releaseOf n) rest).map (n :: ·)

/-- The prefix that makes room for an entry: projected weight, less its releases, plus the increment, is within the limit
(R45). -/
def State.evictionPrefix (s : State) (e : WakeEntry) : Option (List Slot) :=
  shortestPrefix s.candidateRelease (s.projected + s.increment e.slot - s.effectiveLimit) s.evictionWalk

/-- An EVICT drain starts on a candidate, or its IDLE drain is converted (R45). -/
def State.evict (s : State) (n : Slot) : State :=
  if (s.slot n).state = .draining then s.convertDrain n .evict else s.startDrain n .evict (s.profile n).power.restMode

/-- The head is passed by a bypass grant (R48). -/
def State.countPass (s : State) (n : Slot) : State :=
  { s with wake := s.wake.map (fun e => if e.slot = n then { e with passed := min 7 (e.passed + 1) } else e) }

/-- The steps of an evaluation (R42 to R49); each grant removes an entry, so `fuel` above the number of entries is never used
up. The evictions of one event are done one after the other in use order: no rule orders their SLUMBER exchanges or notices among
each other (DESIGN CHOICE, log entry 27). -/
def State.evaluate : Nat → State → State
  | 0, s => s
  | fuel + 1, s =>
    match s.eligibleOrder with
    | [] => s
    | head :: others =>
      if s.fits head then State.evaluate fuel (s.grant head.slot)
      else if s.evictionSet ≠ [] then s
      else match s.evictionPrefix head with
        | some ns => ns.foldl State.evict { s with evictionSet := ns }
        | none =>
          if head.passed < s.budget.bypassAllowance then
            match others.find? s.fits with
            | some e => State.evaluate fuel ((s.countPass head.slot).grant e.slot)
            | none => s
          else s

/-- An evaluation is due and can be taken: not while shedding is active, not while a restart waits (R40). -/
def State.evaluationOpen (s : State) : Bool := s.running && s.evaluationDue && !s.sheds && !s.restarting

/-- EVALUATION (R40). -/
def execEvaluation (s : State) : Host.Outcome State Fault Refusal :=
  event s.evaluationOpen s (fun s => State.evaluate (s.wake.length + 1) { s with evaluationDue := false })

/-! ## Load shedding (R56 to R62) -/

/-- The slots of one stage round of victim order, pinned or unpinned (R57, R62). -/
def State.stages (s : State) (pinned : Bool) : List Slot :=
  let mine := fun n => (s.slot n).pin == pinned
  s.useOrder.filter (fun n => mine n && s.idleSlot n && (s.slot n).idleDraining) ++
    s.useOrder.filter (fun n => mine n && s.idleSlot n && (s.slot n).state == .awake) ++
    s.useOrder.filter (fun n => mine n && !s.idleSlot n && (s.slot n).state == .awake) ++
    allSlots.filter (fun n => mine n && (s.slot n).state.comingUp && (s.slot n).switchOff.isNone) ++
    allSlots.filter (fun n => mine n && (s.slot n).state == .slumber)

/-- Victim order (R57): the stages over unpinned slots, and then over pinned ones. -/
def State.victimOrder (s : State) : List Slot := s.stages false ++ s.stages true

/-- The action of a selection, by the slot's state (R57): convert the IDLE drain, start a SHED drain, or switch off. -/
def State.shedSlot (s : State) (n : Slot) : State :=
  match (s.slot n).state with
  | .draining => s.convertDrain n .shed
  | .awake => s.startDrain n .shed (s.profile n).power.restMode
  | .powering => s.switchOff n .shed
  | .waking => s.switchOff n .shed
  | .slumber => s.switchOff n .shed
  | .off => s
  | .settling => s
  | .faulted => s

/-- The selections of a pass (R56). A release that brings committed weight within the limit ends shedding and the pass with
it (R65). A slot is selected at most once, so `fuel` of one more than the slots is never used up. -/
def State.selectVictims : Nat → State → State
  | 0, s => s
  | fuel + 1, s =>
    if s.sheds = false ∨ s.projected ≤ s.effectiveLimit then s
    else match s.victimOrder with
      | [] => s
      | n :: _ =>
        let s1 : State :=
          { s.shedSlot n with shedding := { s.shedding with victims := min 255 (s.shedding.victims + 1) } }
        if s1.committed ≤ s1.effectiveLimit then s1.endShedding .release else State.selectVictims fuel s1

/-- A selection pass is due and can be taken (R56, R67). -/
def State.passOpen (s : State) : Bool := s.running && s.passDue && s.sheds && !s.restarting

/-- SELECTION_PASS (R56). -/
def execSelectionPass (s : State) : Host.Outcome State Fault Refusal :=
  event s.passOpen s (fun s => State.selectVictims 25 { s with passDue := false })

end Sys2Proof.Machine
end

