-- ==== Sys2Proof/Machine/Chain.lean ====
section
/-! DEFINITION. The Chain Controller: the selection, the phases of an attempt, and what the end of an attempt does. -/

namespace Sys2Proof.Machine

/-! ## Choosing the next exchange (R108, R109) -/

/-- The slots in turn order: counted upward from the slot after the pointer, wrapping, and ending with the pointer's own slot
(R109). -/
def turnOrder (pointer : Slot) : List Slot := (List.range 24).map (fun k => Fin.ofNat 24 (pointer.val + 1 + k))

/-- The slot offers a head of this level. -/
def State.offersLevel (s : State) (l : Level) (n : Slot) : Bool :=
  match s.offeredHead n with
  | some r => r.level == l
  | none => false

/-- The slot to serve with data: first by level, then by turn (R109). -/
def State.chooseSlot (s : State) : Option Slot :=
  match (turnOrder s.roundRobin).find? (s.offersLevel .urgent) with
  | some n => some n
  | none => (turnOrder s.roundRobin).find? (s.offersLevel .normal)

/-- The command of a data exchange (R95): a posted write goes out as a WRITE. -/
def commandOf : DataOp → ChainCommand
  | .read => .read
  | .write => .write
  | .writePosted => .write

/-- The exchange that carries a record, at its first attempt (R95, R108). -/
def dataExchange (n : Slot) (r : Record) : Exchange :=
  { slot := n, command := commandOf r.op, attempt := 0, phase := .sending,
    frame := commandFrame n (commandOf r.op) r.address r.length (if r.op = .read then [] else r.writeData.getD []) }

/-- A control exchange, at its first attempt (R95, R108). -/
def controlExchange (c : ControlEntry) : Exchange :=
  { slot := c.slot, command := c.command, attempt := 0, phase := .sending, frame := commandFrame c.slot c.command 0 0 [] }

/-- The head control exchange starts (R107): a SLUMBER takes its slot to SETTLING. -/
def State.startControl (s : State) (c : ControlEntry) (rest : List ControlEntry) : State :=
  let s1 : State := { s with control := rest, exchange := some (controlExchange c) }
  if c.command = .slumber then s1.changeState c.slot .settling [] else s1

/-- The dispatch of a slot's head (R83, R110). -/
def State.dispatch (s : State) (n : Slot) : State :=
  match s.queue n with
  | [] => s
  | r :: rest =>
    let s1 := (s.setQueue n ({ r with state := .dispatched, attempt := 0, deadline := none } :: rest)).stopStep n
    { s1 with exchange := some (dataExchange n r), roundRobin := n }

/-- The selection (R108). -/
def State.select (s : State) : State :=
  match s.control with
  | c :: rest => s.startControl c rest
  | [] => match s.chooseSlot with
    | some n => s.dispatch n
    | none => s

/-- CHAIN_SELECTION (R108). -/
def execChainSelection (s : State) : Host.Outcome State Fault Refusal := event s.selectionOpen s State.select

/-! ## The phases of an attempt (R97) -/

/-- The exchange in flight is in this phase. -/
def State.inPhase (s : State) (p : AttemptPhase) : Bool :=
  s.running && (match s.exchange with
    | some e => e.phase == p
    | none => false)

/-- The attempt passes to a phase, with the response timeout as given. -/
def State.toPhase (s : State) (p : AttemptPhase) (timeout : Option Nat) : State :=
  { s with exchange := s.exchange.map (fun e => { e with phase := p }), responseTimeout := timeout }

/-- COMMAND_SENT (R97): SENDING ends, and the response timeout is loaded. -/
def execCommandSent (s : State) : Host.Outcome State Fault Refusal :=
  quietEvent (s.inPhase .sending) s (fun s => s.toPhase .awaiting (some s.chain.responseTimeout))

/-- REPLY_START (R97): the timeout stops. -/
def execReplyStart (s : State) : Host.Outcome State Fault Refusal :=
  quietEvent (s.inPhase .awaiting) s (fun s => s.toPhase .receiving none)

/-- REPLY_BYTE_RECEIVED (R97): the timeout is loaded again, with the value in force. -/
def execReplyByteReceived (s : State) : Host.Outcome State Fault Refusal :=
  quietEvent (s.inPhase .receiving) s (fun s => s.toPhase .receiving (some s.chain.responseTimeout))

/-! ## The end of an attempt (R99 to R103) -/

/-- Outcomes that call for a retry, for the commands that are retried (R99). -/
def retryCalled (command : ChainCommand) (o : AttemptOutcome) : Bool :=
  (command != .wake && command != .identify) && (match o with
    | .timeout => true
    | .checkError => true
    | .notReady => true
    | .done _ => false
    | .refused => false
    | .failed => false)

/-- A failed attempt: one that no valid reply ended (R97). -/
def AttemptOutcome.isFailure : AttemptOutcome → Bool
  | .timeout => true
  | .checkError => true
  | .done _ => false
  | .refused => false
  | .notReady => false
  | .failed => false

/-- The consecutive-failure count after an attempt (R101); IDENTIFY leaves it unchanged. -/
def failuresAfter (command : ChainCommand) (o : AttemptOutcome) (count : Nat) : Nat :=
  if command = .identify then count else if o.isFailure then min 15 (count + 1) else 0

/-- The count was raised to the threshold, or above it (R102). -/
def reachesThreshold (command : ChainCommand) (o : AttemptOutcome) (count threshold : Nat) : Bool :=
  command != .identify && o.isFailure && threshold ≤ failuresAfter command o count

/-- The record of a data exchange counts its retries with the exchange (R94, R100). -/
def State.countRetry (s : State) (n : Slot) : State :=
  match s.queue n with
  | r :: rest => if r.state = .dispatched then s.setQueue n ({ r with attempt := r.attempt + 1 } :: rest) else s
  | [] => s

/-- A retry (R100): the next attempt enters SENDING with the same frame. -/
def State.retry (s : State) (e : Exchange) : State :=
  let s1 : State := { s with exchange := some { e with attempt := e.attempt + 1, phase := .sending }, responseTimeout := none }
  if e.command = .slumber then s1 else s1.countRetry e.slot

/-- A data exchange ends (R87): its record completes and leaves the queue, the slot becomes the most recently used (R18), an
empty queue may start the idle hold (R11), and a draining slot moves towards rest (R14). The record's notice, WRITE_LOST or
ATTENTION, is raised before the SLOT_STATE of an entry to OFF: no rule orders the two (DESIGN CHOICE, log entry 13). -/
def State.dataEnd (s : State) (n : Slot) (o : AttemptOutcome) : State :=
  match s.queue n with
  | [] => s
  | r :: rest =>
    let data := match o with
      | .done d => if r.op = .read then d else []
      | _ => []
    let s1 := (s.setQueue n rest).handOff r (outcomeStatus o) data true
    let s2 : State := if n ∈ s1.useOrder then { s1 with useOrder := s1.useOrder.filter (· != n) ++ [n] } else s1
    if (s2.slot n).state = .draining then s2.towardsRest n else s2.startIdleHold n

/-- The outcome of an exchange is handed on (R103). -/
def State.exchangeEnd (s : State) (e : Exchange) (o : AttemptOutcome) : State :=
  let s1 : State := { s with exchange := none, responseTimeout := none }
  match e.command with
  | .read => s1.dataEnd e.slot o
  | .write => s1.dataEnd e.slot o
  | .slumber => s1.slumberEnd e.slot o
  | .wake => s1.wakeEnd e.slot
  | .identify => s1.identifyEnd e.slot o

/-- The end of an attempt: the count (R101), the threshold (R102), the retry decision (R100), the end of the exchange (R103). -/
def State.attemptEnd (s : State) (e : Exchange) (o : AttemptOutcome) : State :=
  let count := (s.slot e.slot).failures
  let s1 := s.updateSlot e.slot (fun r => { r with failures := failuresAfter e.command o count })
  if reachesThreshold e.command o count s.chain.faultThreshold then
    ({ s1 with exchange := none, responseTimeout := none } : State).enterFaulted e.slot .faultThreshold
  else if retryCalled e.command o ∧ e.attempt < s.chain.retryLimit then s1.retry e
  else s1.exchangeEnd e o

/-- RESPONSE_TIMEOUT_EXPIRY (R97): the running timeout expires and ends the attempt, in TIMEOUT or in CHECK_ERROR. -/
def execResponseTimeoutExpiry (s : State) : Host.Outcome State Fault Refusal :=
  match s.exchange with
  | none => .next s
  | some e =>
    event (s.running && s.responseTimeout.isSome) s (fun s => match e.phase with
      | .sending => s
      | .awaiting => s.attemptEnd e .timeout
      | .receiving => s.attemptEnd e .checkError)

/-- REPLY_END (R98): the reply is judged, its length against the length the command asked for, which is the frame's fifth
byte. -/
def execReplyEnd (bytes : List Byte) (s : State) : Host.Outcome State Fault Refusal :=
  match s.exchange with
  | none => .next s
  | some e =>
    event (s.inPhase .receiving) s
      (fun s => s.attemptEnd e (judgeReply e.slot e.command ((e.frame[4]?.getD 0).toNat) bytes))

end Sys2Proof.Machine
end

