-- ==== Sys2Proof/Machine/Link.lean ====
section
/-! DEFINITION. Reset and start, the time base, and the System Link Interface: reception, ingress, the output arbiter and the
transmitter. -/

namespace Sys2Proof.Machine

/-! ## Reset, start and the time base -/

/-- COLD_RESET (R190): every block takes its reset values and the hub is held. The pins are the outside world's; the model's own
queue and counter stay. -/
def execColdReset (cause : ResetCause) (s : State) : Host.Outcome State Fault Refusal :=
  .next { State.reset with
    hub := .held cause, supplyLowPin := s.supplyLowPin, atnLines := s.atnLines, freeIndex := s.freeIndex, pending := s.pending }

/-- READY after a cold reset (R171): stamp 0, since the time base stands at 0 in the hold. -/
def readyNotice (cause : ResetCause) : Notice :=
  { kind := .ready, stamp := 0, slot := none, requesterTag := none, unit := none, cause := some (.ready (.reset cause)),
    count := 0, data := [] }

/-- START (R191): the hub runs, READY is created and its transmission starts, and the debounce is loaded where SUPPLY_LOW is
asserted. -/
def execStart (s : State) : Host.Outcome State Fault Refusal :=
  .next (match s.hub with
    | .running => s
    | .held cause =>
      { s with
        hub := .running
        timeBase := 0
        notices := [readyNotice cause]
        transmitter := .notice (noticeFrame (readyNotice cause))
        responseRun := 0
        debounce := if s.supplyLowPin then some 5 else none })

/-- TIME_BASE_ADVANCE (R166). -/
def execTimeBaseAdvance (s : State) : Host.Outcome State Fault Refusal :=
  quietEvent s.running s (fun s => { s with timeBase := s.timeBase + 1 })

/-! ## Reception (R176, R177) -/

/-- FRAME_RECEPTION_START (R176): an opening delimiter opens a frame; inside a frame it also ends that frame as bad. -/
def execFrameReceptionStart (s : State) : Host.Outcome State Fault Refusal :=
  quietEvent s.running s (fun s => match s.receiver with
    | .idle => { s with receiver := .receiving }
    | .receiving => s.raiseLink .linkCheck)

/-- A checked REQUEST frame reaches ingress (R177). -/
def State.arrive (s : State) (frame : List Byte) : State :=
  if s.ingress.length < Config.ingressSize then { s with ingress := s.ingress ++ [frame] } else s.raiseLink .ingressOverrun

/-- The end of a reception (R176). -/
def State.receptionEnd (s : State) (bytes : List Byte) : State :=
  match receive [] false bytes with
  | .bad reopened => ({ s with receiver := if reopened then .receiving else .idle } : State).raiseLink .linkCheck
  | .closed body =>
    let s1 : State := { s with receiver := .idle }
    match requestContents body with
    | none => s1.raiseLink .linkCheck
    | some frame => s1.arrive frame

/-- FRAME_ARRIVAL (R176). -/
def execFrameArrival (bytes : List Byte) (s : State) : Host.Outcome State Fault Refusal :=
  quietEvent (s.running && s.receiver == .receiving) s (fun s => s.receptionEnd bytes)

/-! ## The output arbiter and the transmitter (R181, R182) -/

/-- The frame of a response item (R88, R186). An item names a READY entry, or a DONE record. -/
def State.itemFrame (s : State) : ResponseItem → List Byte
  | .immediate i => match s.immediate[i] with
    | .ready r => responseFrame (responseContents r)
    | .reserved => []
    | .free => []
  | .record r => responseFrame (recordResponse r)

/-- A response starts (R181); the run counts it only if a notice waits. -/
def State.startResponse (s : State) (item : ResponseItem) : State :=
  { s with transmitter := .response (s.itemFrame item), responseRun := if s.notices.isEmpty then 0 else s.responseRun + 1 }

/-- A notice starts (R181), and passes to in transmission (R167). -/
def State.startNotice (s : State) (n : Notice) : State := { s with transmitter := .notice (noticeFrame n), responseRun := 0 }

/-- The choice (R181). With the transmitter IDLE every notice waits. -/
def State.choose (s : State) : State :=
  match s.responses, s.notices with
  | [], [] => s
  | item :: _, [] => s.startResponse item
  | [], n :: _ => s.startNotice n
  | item :: _, n :: _ => if s.responseRun < 8 then s.startResponse item else s.startNotice n

/-- OUTPUT_CHOICE (R181). -/
def execOutputChoice (s : State) : Host.Outcome State Fault Refusal :=
  quietEvent (s.running && s.transmitter == .idle) s State.choose

/-- A response has been sent: its item leaves the queue, and its entry or record is freed (R182, R93). -/
def State.responseSent (s : State) : State :=
  let s1 : State := { s with transmitter := .idle, responses := s.responses.tail }
  match s.responses with
  | .immediate i :: _ => { s1 with immediate := s1.immediate.set i .free }
  | .record _ :: _ => s1
  | [] => s1

/-- A notice has been sent: it leaves the queue, and lost notices are reported in the place it frees (R170). -/
def State.noticeSent (s : State) : State :=
  let s1 : State := { s with transmitter := .idle, notices := s.notices.tail }
  if s.lostCount = 0 then s1
  else { s1 with
    notices := s1.notices ++ [{ s1.blankNotice .noticesLost with count := s.lostCount, data := word32 s.firstLoss }]
    lostCount := 0 }

/-- TRANSMISSION_END (R182). A freed record may go to a fetch claim (R79), so a response's end is ended as an event. -/
def execTransmissionEnd (s : State) : Host.Outcome State Fault Refusal :=
  .next (match s.running, s.transmitter with
    | true, .response _ => s.finish s.responseSent
    | true, .notice _ => s.noticeSent
    | _, _ => s)

end Sys2Proof.Machine
end

