-- ==== Sys2Proof/Machine/Store.lean ====
section
/-! DEFINITION. Taking a frame from ingress and the first three admission checks, which every request shares; the admission of
data requests; and the expiry of a record's lifetime. -/

namespace Sys2Proof.Machine

/-! ## The take (R178) and checks 1 to 3 (R71) -/

/-- The frame that a take command of kind `k` takes, with the immediate entry it reserves: the oldest of ingress, if a take is
due (R178) and the frame is the command's. A frame that names no operation of the hub is any take command's (log entry 5). -/
def State.takeHead (s : State) (k : TakeKind) : Option (Taken × List Byte) :=
  match s.running && s.taking, s.ingress, s.freeEntry with
  | true, frame :: _, some i =>
    if takeKindOf frame = none ∨ takeKindOf frame = some k then
      some ({ entry := i, requester := frameRequester frame, tag := frameTag frame }, frame)
    else none
  | _, _, _ => none

/-- Checks 1 to 3 (R71): `form` is the outcome of check 1, and `carry` what the frame does if it passes. -/
def commonChecks {α : Type} (c : Taken) (form : Option α) (carry : Taken → α → State → State) (s : State) : State :=
  match form with
  | none => s.respond c .malformed []
  | some a =>
    if (s.requester c.requester).enabled = false then s.respond c .requesterOff []
    else if s.tagInUse c.requester c.tag then s.respond c .tagInUse []
    else carry c a s

/-- A take command: the frame leaves ingress and is handed to admission. Where no take of this kind is due the state stays as it
is (log entry 2). -/
def take {α : Type} (k : TakeKind) (form : List Byte → Option α) (carry : Taken → α → State → State) (s : State) :
    Host.Outcome State Fault Refusal :=
  .next (match s.takeHead k with
    | none => s
    | some (c, frame) => commonChecks c (form frame) carry { s with ingress := s.ingress.tail })

/-! ## Admission of a data request -/

/-- The entry permits the operation (R75). -/
def UnitEntry.permits (e : UnitEntry) : DataOp → Bool
  | .read => e.read
  | .write => e.write
  | .writePosted => e.post

/-- The record's deadline (R84). -/
def deadlineOf (lifetime default : Nat) : Option Nat :=
  if lifetime ≠ 0 then some lifetime else if default ≠ 0 then some default else none

/-- The record of an accepted request (R68, R80). -/
def State.requestRecord (s : State) (c : Taken) (e : UnitEntry) (q : DataRequest) : Record :=
  { owner := .requester c.requester, tag := some c.tag, unit := some q.unit, slot := e.slot, op := q.op,
    address := e.base + q.offset, length := q.length,
    writeData := if q.op = .read then none else some q.data, readData := none,
    level := lowerLevel e.level (s.requester c.requester).ceiling,
    deadline := deadlineOf q.lifetime e.defaultLifetime, state := .queued, attempt := 0, status := none }

/-- Checks 5 to 11 (R71): the refusal of the first that fails, or the entry the request resolves to. The live count and the
requester records can exceed a limit only in a state no run reaches, or after a queue limit was lowered (R78). -/
def State.checkRequest (s : State) (c : Taken) (q : DataRequest) : Except Status UnitEntry :=
  match s.lookup q.unit with
  | none => .error .unknownUnit
  | some (_, e) =>
    if e.mask.getLsbD c.requester.val = false ∨ e.permits q.op = false then .error .denied
    else if e.length < q.offset + q.length then .error .range
    else if (s.profile e.slot).power.present = false then .error .slotAbsent
    else if (s.slot e.slot).state = .faulted then .error .slotFaulted
    else if (s.requester c.requester).limit ≤ s.liveCount c.requester then .error .requesterFull
    else if (s.profile e.slot).queueLimit ≤ s.requesterRecords e.slot then .error .queueFull
    else if Config.poolSize ≤ s.liveTotal then .error .busy
    else .ok e

/-- A data request past check 4: refused, or accepted as a record (R71, R80). A posted write is answered POSTED as well. -/
def admitData (c : Taken) (q : DataRequest) (s : State) : State :=
  match s.checkRequest c q with
  | .error st => s.respond c st []
  | .ok e =>
    let s1 := s.joinQueue e.slot (s.requestRecord c e q)
    s.finish (if q.op = .writePosted then s1.respond c .posted [] else s1)

/-- READ (R71). -/
def execRead (s : State) : Host.Outcome State Fault Refusal := take (.data .read) (dataForm .read) admitData s

/-- WRITE (R71). -/
def execWrite (s : State) : Host.Outcome State Fault Refusal := take (.data .write) (dataForm .write) admitData s

/-- WRITE_POSTED (R71, R89). -/
def execWritePosted (s : State) : Host.Outcome State Fault Refusal :=
  take (.data .writePosted) (dataForm .writePosted) admitData s

/-! ## Lifetimes (R85) -/

/-- The QUEUED record of a requester and tag, with its lifetime countdown running. -/
def Record.expires (r : Requester) (t : Byte) (x : Record) : Bool :=
  x.owner == .requester r && x.tag == some t && x.state == .queued && x.deadline.isSome

/-- The slot and the record whose lifetime can expire. -/
def State.expiring (s : State) (r : Requester) (t : Byte) : Option (Slot × Record) :=
  allSlots.findSome? (fun n => ((s.queue n).find? (Record.expires r t)).map (fun x => (n, x)))

/-- An expiry or abort has taken records from a slot's queue; if it is empty now, the idle hold starts or reason WORK is
withdrawn (R85). -/
def State.queueLeft (s : State) (n : Slot) : State :=
  if (s.queue n).isEmpty then
    match (s.slot n).state with
    | .awake => s.startIdleHold n
    | .off => s.withdrawReason n .work
    | .slumber => s.withdrawReason n .work
    | .powering => s
    | .waking => s
    | .draining => s
    | .settling => s
    | .faulted => s
  else s

/-- LIFETIME_EXPIRY (R85): the record leaves its queue and completes EXPIRED. -/
def execLifetimeExpiry (r : Requester) (t : Byte) (s : State) : Host.Outcome State Fault Refusal :=
  match s.expiring r t with
  | none => .next s
  | some (n, x) =>
    event s.running s (fun s =>
      ((s.setQueue n ((s.queue n).eraseP (Record.expires r t))).handOff x .expired [] true).queueLeft n)

end Sys2Proof.Machine
end

