-- ==== Sys2Proof/Machine/Management.lean ====
section
/-! DEFINITION. The Management Unit: table access, reports, slot commands, the fault record, and the warm restart. -/

namespace Sys2Proof.Machine

/-- The Management Unit's own check (R146): NOT_ALLOWED without the manage right. -/
def manage {α : Type} (op : Taken → α → State → State) (c : Taken) (a : α) (s : State) : State :=
  if (s.requester c.requester).manage = false then s.respond c .notAllowed [] else op c a s

/-- An operation with a slot argument: BAD_INDEX outside 0 to 23 (R147). -/
def withSlot (op : Taken → Slot → State → State) (c : Taken) (b : Byte) (s : State) : State :=
  match slotOfByte b with
  | none => s.respond c .badIndex []
  | some n => op c n s

/-! ## Reading entries (R145, R148) -/

/-- The bytes of an entry; none outside the table's range. -/
def State.entryContents (s : State) (t : Table) (i : Nat) : Option (List Byte) :=
  match t with
  | .unit => s.unitMap[i]?.map layUnitEntry
  | .profile => s.profiles[i]?.map layProfile
  | .requester => s.requesters[i]?.map layRequesterEntry
  | .chain => if i = 0 then some (layChainSettings s.chain) else none
  | .budget => if i = 0 then some (layBudgetSettings s.budget) else none

/-- READ ENTRY. -/
def readEntryOp (c : Taken) (a : Table × Nat) (s : State) : State :=
  match s.entryContents a.1 a.2 with
  | none => s.respond c .badIndex []
  | some bytes => s.respond c .ok bytes

/-- READ_ENTRY (R148). -/
def execReadEntry (s : State) : Host.Outcome State Fault Refusal := take .readEntry readEntryArguments (manage readEntryOp) s

/-! ## Writing entries (R132, R149) -/

/-- Another valid entry has the number (R134). -/
def State.numberTaken (s : State) (i : Nat) (e : UnitEntry) : Bool :=
  e.valid && s.unitMap.toList.zipIdx.any (fun p => p.2 != i && p.1.valid && p.1.number == e.number)

/-- A write of the Unit Map (R134, R136). -/
def writeUnitOp (c : Taken) (a : Nat × List Byte) (s : State) : State :=
  if h : a.1 < 128 then
    match readUnitEntry a.2 with
    | none => s.respond c .badValue []
    | some e =>
      if s.numberTaken a.1 e = true then s.respond c .duplicate []
      else ({ s with unitMap := s.unitMap.set a.1 e } : State).respond c .ok []
  else s.respond c .badIndex []

/-- WRITE_ENTRY_UNIT (R134). -/
def execWriteEntryUnit (s : State) : Host.Outcome State Fault Refusal :=
  take .writeUnit (writeEntryArguments .unit) (manage writeUnitOp) s

/-- A write of the Requester Table (R138, R139). -/
def writeRequesterOp (c : Taken) (a : Nat × List Byte) (s : State) : State :=
  if h : a.1 < 8 then
    match readRequesterEntry a.2 with
    | none => s.respond c .badValue []
    | some e =>
      if e.limit ≠ s.requesters[a.1].limit ∧ e.limit < s.liveCount ⟨a.1, h⟩ then s.respond c .inUse []
      else ({ s with requesters := s.requesters.set a.1 e } : State).respond c .ok []
  else s.respond c .badIndex []

/-- WRITE_ENTRY_REQUESTER (R138). -/
def execWriteEntryRequester (s : State) : Host.Outcome State Fault Refusal :=
  take .writeRequester (writeEntryArguments .requester) (manage writeRequesterOp) s

/-- The power fields of a slot may be changed: it is in OFF or FAULTED and no record belongs to it (R141). -/
def State.powerFieldsOpen (s : State) (n : Slot) : Bool :=
  ((s.slot n).state == .off || (s.slot n).state == .faulted) && (s.queue n).isEmpty

/-- What a write of a profile does to a running idle hold (R144): a changed value is loaded, or stops the countdown. -/
def State.idleHoldWritten (s : State) (n : Slot) (old : Nat) : State :=
  if (s.profile n).idleHold = old then s
  else if (s.profile n).idleHold = 0 ∧ (s.slot n).state = .awake then s.stopStep n
  else s.startIdleHold n

/-- An accepted write of a profile (R142, R144): a changed power field of a listed slot makes an evaluation due. -/
def State.storeProfile (s : State) (n : Slot) (p : Profile) : State :=
  let old := s.profile n
  let s1 := ({ s with profiles := s.profiles.set n p } : State).idleHoldWritten n old.idleHold
  if p.power ≠ old.power ∧ s1.listed n = true then s1.markEvaluation else s1

/-- A write of the Slot Profile Table (R141). -/
def writeProfileOp (c : Taken) (a : Nat × List Byte) (s : State) : State :=
  if h : a.1 < 24 then
    match readProfile a.2 with
    | none => s.respond c .badValue []
    | some p =>
      let n : Slot := ⟨a.1, h⟩
      if p.power ≠ (s.profile n).power ∧ s.powerFieldsOpen n = false then s.respond c .inUse []
      else (s.storeProfile n p).respond c .ok []
  else s.respond c .badIndex []

/-- WRITE_ENTRY_PROFILE (R141). -/
def execWriteEntryProfile (s : State) : Host.Outcome State Fault Refusal :=
  take .writeProfile (writeEntryArguments .profile) (manage writeProfileOp) s

/-- A write of Chain Settings (R149, R114). -/
def writeChainOp (c : Taken) (a : Nat × List Byte) (s : State) : State :=
  if a.1 ≠ 0 then s.respond c .badIndex []
  else match readChainSettings a.2 with
    | none => s.respond c .badValue []
    | some v => ({ s with chain := v } : State).respond c .ok []

/-- WRITE_ENTRY_CHAIN (R149). -/
def execWriteEntryChain (s : State) : Host.Outcome State Fault Refusal :=
  take .writeChain (writeEntryArguments .chain) (manage writeChainOp) s

/-- A write of Budget Settings (R150): all five fields land, and then the arbiter acts on the limit in force. -/
def writeBudgetOp (c : Taken) (a : Nat × List Byte) (s : State) : State :=
  if a.1 ≠ 0 then s.respond c .badIndex []
  else match readBudgetSettings a.2 with
    | none => s.respond c .badValue []
    | some v => (({ s with budget := v } : State).limitSet s.effectiveLimit .limitWrite).respond c .ok []

/-- WRITE_ENTRY_BUDGET (R150). -/
def execWriteEntryBudget (s : State) : Host.Outcome State Fault Refusal :=
  take .writeBudget (writeEntryArguments .budget) (manage writeBudgetOp) s

/-! ## Reports (R151 to R154) -/

/-- FIND UNIT. -/
def findUnitOp (c : Taken) (unit : Nat) (s : State) : State :=
  match s.lookup unit with
  | none => s.respond c .unknownUnit []
  | some (i, _) => s.respond c .ok [byteOf i]

/-- FIND_UNIT (R151). -/
def execFindUnit (s : State) : Host.Outcome State Fault Refusal := take .findUnit unitArgument (manage findUnitOp) s

/-- The slot report (R152, R186). -/
def State.slotReport (s : State) (n : Slot) : List Byte :=
  let r := s.slot n
  [slotStateCode r.state, byteOf r.charge, byteOf r.grantedAwake, byteOf r.grantedStandby, byteOf (s.queue n).length,
    byteOf (flagBit 0 r.pin + flagBit 1 (s.att n).pending + flagBit 2 (s.listed n)), byteOf r.failures] ++
    (match s.wakeEntry n with
      | some e => word16 e.join.toNat ++ [levelCode e.level]
      | none => [0x00, 0x00, 0xFF]) ++
    (match r.drain with
      | some d => [drainCauseCode d.cause, restModeCode d.target]
      | none => [0xFF, 0xFF]) ++
    [switchOffCode r.switchOff]

/-- READ SLOT. -/
def readSlotOp (c : Taken) (n : Slot) (s : State) : State := s.respond c .ok (s.slotReport n)

/-- READ_SLOT (R152). -/
def execReadSlot (s : State) : Host.Outcome State Fault Refusal :=
  take .readSlot (oneArgument 0x04) (manage (withSlot readSlotOp)) s

/-- One item of the queue report (R153, R186). -/
def queueItem (r : Record) : List Byte := [ownerCode r.owner, r.tag.getD 0, recordStateCode r.state, levelCode r.level]

/-- READ QUEUE. -/
def readQueueOp (c : Taken) (n : Slot) (s : State) : State :=
  s.respond c .ok (byteOf (s.queue n).length :: (s.queue n).flatMap queueItem)

/-- READ_QUEUE (R153). -/
def execReadQueue (s : State) : Host.Outcome State Fault Refusal :=
  take .readQueue (oneArgument 0x05) (manage (withSlot readQueueOp)) s

/-- One entry of the budget report (R154, R186). -/
def State.budgetItem (s : State) (e : WakeEntry) : List Byte :=
  [byteOf e.slot.val] ++ word16 e.join.toNat ++
    [levelCode e.level,
      byteOf (flagBit 0 e.reasons.work + flagBit 1 e.reasons.attention + flagBit 2 e.reasons.managed + flagBit 3 e.reasons.pin),
      byteOf e.passed, byteOf (s.increment e.slot), byteOf (flagBit 0 (s.eligible e))]

/-- The budget report (R52, R154, R186). -/
def State.budgetReport (s : State) : List Byte :=
  word16 s.budget.normalLimit ++ word16 s.budget.reducedLimit ++
    [byteOf (flagBit 0 s.supplyTaken + flagBit 1 s.sheds), gateCode s.budget.gate] ++
    word16 s.committed ++ word16 s.projected ++ [byteOf s.wake.length] ++ s.arbiterOrder.flatMap s.budgetItem

/-- READ BUDGET. -/
def readBudgetOp (c : Taken) (_ : Unit) (s : State) : State := s.respond c .ok s.budgetReport

/-- READ_BUDGET (R154). -/
def execReadBudget (s : State) : Host.Outcome State Fault Refusal :=
  take .readBudget (noArguments 0x06) (manage readBudgetOp) s

/-! ## Slot commands (R155 to R159) -/

/-- SLOT WAKE. -/
def slotWakeOp (c : Taken) (a : Byte × Byte) (s : State) : State :=
  match slotOfByte a.1, levelOfByte a.2 with
  | none, _ => s.respond c .badIndex []
  | some _, none => s.respond c .badValue []
  | some n, some l =>
    if (s.profile n).power.present = false then s.respond c .slotAbsent []
    else if (s.slot n).state = .faulted then s.respond c .slotFaulted []
    else if (s.slot n).state.resting = true then (s.gainReason n .managed l).respond c .ok []
    else s.respond c .ok []

/-- SLOT_WAKE (R155). -/
def execSlotWake (s : State) : Host.Outcome State Fault Refusal := take .slotWake wakeArguments (manage slotWakeOp) s

/-- SLOT REST. -/
def slotRestOp (c : Taken) (n : Slot) (s : State) : State :=
  if (s.slot n).state = .awake then
    if (s.queue n).isEmpty then s.finish ((s.startDrain n .rest .slumber).respond c .ok [])
    else s.respond c .inUse []
  else s.respond c .ok []

/-- SLOT_REST (R156). -/
def execSlotRest (s : State) : Host.Outcome State Fault Refusal :=
  take .slotRest (oneArgument 0x08) (manage (withSlot slotRestOp)) s

/-- SLOT OFF's first step (R91, R157): the QUEUED records complete ABORTED, and the fetch claim is withdrawn; its notice is the
second step's. -/
def State.abortQueued (s : State) (n : Slot) : State :=
  let rs := (s.queue n).filter (fun r => r.state == .queued)
  (s.setQueue n ((s.queue n).filter (fun r => r.state != .queued))).completeAll rs (fun _ => .aborted) false

/-- SLOT OFF's second step (R128): the attention action ends. In HOLDOFF under EDGE, the mode being the one last read, pending
clears, as at an expiry (log entries 10 and 11). -/
def State.attentionOff (s : State) (n : Slot) : State :=
  match (s.att n).phase with
  | .idle => s
  | .fetching => s
  | .holdoff => s.updateAtt n (fun a => { a with
      pending := a.senseRead == some .level && a.pending, phase := .idle, holdoff := none })
  | .waitingRecord => ({ s with claims := s.claims.filter (· != n) } : State).endAction n .aborted [] false
  | .waitingAwake => s.endAction n .aborted [] false

/-- SLOT OFF retargets a drain (R20). -/
def State.retargetOff (s : State) (n : Slot) : State :=
  s.updateSlot n (fun r => { r with drain := some { cause := .offcmd, target := .off } })

/-- SLOT OFF's fourth step (R19, R20). -/
def State.residencyOff (s : State) (n : Slot) : State :=
  match (s.slot n).state with
  | .off => s
  | .faulted => s
  | .powering => s.switchOff n .offcmd
  | .waking => s.switchOff n .offcmd
  | .slumber => s.switchOff n .offcmd
  | .awake => s.startDrain n .offcmd .off
  | .draining =>
    let s1 := s.retargetOff n
    ({ s1 with control := s1.control.filter (fun x => x.slot != n) } : State).towardsRest n
  | .settling => s.retargetOff n

/-- SLOT OFF: the five steps of R157 in order. On a shedding victim a selection pass becomes due, whether or not its pending release
changes (R63, R157). -/
def slotOffOp (c : Taken) (n : Slot) (s : State) : State :=
  let s1 := (((s.abortQueued n).attentionOff n).removeEntry n).residencyOff n
  let s2 := if (s.slot n).isVictim then s1.markPass else s1
  s.finish (s2.respond c .ok [])

/-- SLOT_OFF (R157). -/
def execSlotOff (s : State) : Host.Outcome State Fault Refusal :=
  take .slotOff (oneArgument 0x09) (manage (withSlot slotOffOp)) s

/-- PIN on a slot that is not pinned (R24). -/
def State.pinSlot (s : State) (n : Slot) : State :=
  let s1 := s.updateSlot n (fun r => { r with pin := true })
  match (s.slot n).state with
  | .off => s1.gainReason n .pin .urgent
  | .slumber => s1.gainReason n .pin .urgent
  | .awake => s1.stopStep n
  | .draining => if (s.slot n).idleDraining then s1.cancelDrain n else s1
  | .powering => s1
  | .waking => s1
  | .settling => s1
  | .faulted => s1

/-- PIN; on a slot already pinned it changes nothing (R24, log entry 14). -/
def pinOp (c : Taken) (n : Slot) (s : State) : State :=
  if (s.slot n).pin then s.respond c .ok [] else s.finish ((s.pinSlot n).respond c .ok [])

/-- PIN (R158). -/
def execPin (s : State) : Host.Outcome State Fault Refusal := take .pin (oneArgument 0x0A) (manage (withSlot pinOp)) s

/-- UNPIN on a pinned slot (R24). -/
def State.unpinSlot (s : State) (n : Slot) : State :=
  let s1 := s.updateSlot n (fun r => { r with pin := false })
  match (s.slot n).state with
  | .off => s1.withdrawReason n .pin
  | .slumber => s1.withdrawReason n .pin
  | .awake => s1.startIdleHold n
  | .draining => s1
  | .powering => s1
  | .waking => s1
  | .settling => s1
  | .faulted => s1

/-- UNPIN; on a slot not pinned it changes nothing (R24). -/
def unpinOp (c : Taken) (n : Slot) (s : State) : State :=
  if (s.slot n).pin then s.finish ((s.unpinSlot n).respond c .ok []) else s.respond c .ok []

/-- UNPIN (R158). -/
def execUnpin (s : State) : Host.Outcome State Fault Refusal :=
  take .unpin (oneArgument 0x0B) (manage (withSlot unpinOp)) s

/-- A FAULTED slot returns to OFF (R23). -/
def State.clearSlot (s : State) (n : Slot) : State :=
  let s1 := (s.changeState n .off []).updateSlot n (fun r => { r with failures := 0 })
  if (s1.slot n).pin then s1.gainReason n .pin .urgent else s1

/-- SLOT CLEAR. -/
def slotClearOp (c : Taken) (n : Slot) (s : State) : State :=
  if (s.slot n).state = .faulted then s.finish ((s.clearSlot n).respond c .ok []) else s.respond c .inUse []

/-- SLOT_CLEAR (R159). -/
def execSlotClear (s : State) : Host.Outcome State Fault Refusal :=
  take .slotClear (oneArgument 0x0C) (manage (withSlot slotClearOp)) s

/-! ## The fault record (R160, R174) -/

/-- The fault report (R186), with the stamp given. -/
def faultReport (f : FaultRecord) (stamp : Stamp) : List Byte :=
  let who := f.latched.bind (fun l => l.requesterTag)
  [byteOf (flagBit 0 f.latched.isSome), f.serial, byteOf f.overflow,
    match f.latched with
      | some l => faultKindCode l.kind
      | none => 0xFF,
    match f.latched with
      | some l => byteOf l.slot.val
      | none => 0xFF] ++
    word32 stamp ++
    [match who with
      | some (r, _) => byteOf r.val
      | none => 0xFF,
    match who with
      | some (_, t) => t
      | none => 0xFF]

/-- READ FAULT. The stamp bytes of an empty record are a free value (log entry 1). -/
def readFaultOp (c : Taken) (_ : Unit) (s : State) : State :=
  match s.fault.latched with
  | some l => s.respond c .ok (faultReport s.fault l.stamp)
  | none =>
    ({ s with freeIndex := s.freeIndex + 1 } : State).respond c .ok (faultReport s.fault (Config.emptyFaultStamp s.freeIndex))

/-- READ_FAULT (R160). -/
def execReadFault (s : State) : Host.Outcome State Fault Refusal := take .readFault (noArguments 0x0D) (manage readFaultOp) s

/-- CLEAR FAULT. -/
def clearFaultOp (c : Taken) (serial : Byte) (s : State) : State :=
  if serial ≠ s.fault.serial then s.respond c .stale []
  else if s.fault.latched = none then s.respond c .ok []
  else ({ s with fault := { s.fault with latched := none, overflow := 0 } } : State).respond c .ok []

/-- CLEAR_FAULT (R160). -/
def execClearFault (s : State) : Host.Outcome State Fault Refusal :=
  take .clearFault (oneArgument 0x0E) (manage clearFaultOp) s

/-! ## Warm restart (R161 to R164) -/

/-- RESTART: the hub stops (R161). The lifetime countdowns stop for good, since the completion aborts what is queued (log entry
23). -/
def restartOp (c : Taken) (_ : Unit) (s : State) : State :=
  { s with
    restart := .waiting c.entry c.requester c.tag
    immediate := s.immediate.set c.entry .reserved
    taking := false
    stopped := true
    control := []
    slots := s.slots.map (fun r => { r with step := none, limit := none })
    queues := s.queues.map (fun q => q.map (fun r => { r with deadline := none }))
    attention := s.attention.map (fun a => { a with holdoff := none }) }

/-- RESTART (R161). -/
def execRestart (s : State) : Host.Outcome State Fault Refusal := take .restart (noArguments 0x0F) (manage restartOp) s

/-- Step 1 (R163, R171): the waiting notices go, the lost count returns to 0, READY is queued. -/
def State.restartNotices (s : State) : State :=
  ({ s with notices := s.notices.take s.noticesInTransmission, lostCount := 0 } : State).raise
    { s.blankNotice .ready with cause := some (.ready .restart) }

/-- Step 2 (R92): a slot's records complete ABORTED. -/
def State.restartRecords (s : State) (n : Slot) : State := (s.setQueue n []).completeAll (s.queue n) (fun _ => .aborted) false

/-- Step 3 (R26): a powered slot is taken to OFF. -/
def State.restartSlot (s : State) (n : Slot) : State :=
  if (s.slot n).state.powered then s.changeState n .off [] else s

/-- Step 3's further resets (R26): the counts, and the pins but those of FAULTED slots. -/
def SlotRecord.restarted (r : SlotRecord) : SlotRecord :=
  { r with failures := 0, pin := if r.state = .faulted then r.pin else false }

/-- Steps 4 to 7 (R163). -/
def State.restartRest (s : State) (c : Taken) : State :=
  ({ s with
    slots := s.slots.map SlotRecord.restarted
    useOrder := []
    wake := []
    evictionSet := []
    joinCounter := 0
    shedding := { active := none, victims := 0 }
    committed := 0
    evaluationDue := false
    passDue := false
    attention := Vector.replicate 24 AttentionRecord.reset
    restart := .noRestart
    stopped := false
    taking := true } : State).respond c .ok []

/-- The completion (R163), for the held frame `c`. -/
def State.completeRestart (s : State) (c : Taken) : State :=
  let s1 := s.restartNotices
  let s2 : State := { allSlots.foldl State.restartRecords s1 with claims := [] }
  (allSlots.foldl State.restartSlot s2).restartRest c

/-- RESTART_COMPLETION (R163): due while the restart waits and no exchange is in flight (R161, R162). -/
def execRestartCompletion (s : State) : Host.Outcome State Fault Refusal :=
  .next (match s.running && s.exchange.isNone, s.restart with
    | true, .waiting entry requester tag => s.completeRestart { entry := entry, requester := requester, tag := tag }
    | _, _ => s)

end Sys2Proof.Machine
end

