-- ==== Sys2Proof/Machine/Dispatch.lean ====
section
/-! DEFINITION. Which meaning each command has. -/

namespace Sys2Proof.Machine

/-- The effect of a command on everything but the queue of commands. -/
def exec (i : Instr) (s : State) : Host.Outcome State Fault Refusal :=
  match i with
  | .coldReset cause => Sys2Proof.Machine.execColdReset cause s
  | .start => Sys2Proof.Machine.execStart s
  | .timeBaseAdvance => Sys2Proof.Machine.execTimeBaseAdvance s
  | .supplyLowChange asserted => Sys2Proof.Machine.execSupplyLowChange asserted s
  | .supplyLowDebounceExpiry => Sys2Proof.Machine.execSupplyLowDebounceExpiry s
  | .atnChange slot active => Sys2Proof.Machine.execAtnChange slot active s
  | .attentionHoldoffExpiry slot => Sys2Proof.Machine.execAttentionHoldoffExpiry slot s
  | .frameArrival bytes => Sys2Proof.Machine.execFrameArrival bytes s
  | .read => Sys2Proof.Machine.execRead s
  | .write => Sys2Proof.Machine.execWrite s
  | .writePosted => Sys2Proof.Machine.execWritePosted s
  | .readEntry => Sys2Proof.Machine.execReadEntry s
  | .writeEntryUnit => Sys2Proof.Machine.execWriteEntryUnit s
  | .writeEntryRequester => Sys2Proof.Machine.execWriteEntryRequester s
  | .writeEntryProfile => Sys2Proof.Machine.execWriteEntryProfile s
  | .writeEntryChain => Sys2Proof.Machine.execWriteEntryChain s
  | .writeEntryBudget => Sys2Proof.Machine.execWriteEntryBudget s
  | .findUnit => Sys2Proof.Machine.execFindUnit s
  | .readSlot => Sys2Proof.Machine.execReadSlot s
  | .readQueue => Sys2Proof.Machine.execReadQueue s
  | .readBudget => Sys2Proof.Machine.execReadBudget s
  | .slotWake => Sys2Proof.Machine.execSlotWake s
  | .slotRest => Sys2Proof.Machine.execSlotRest s
  | .slotOff => Sys2Proof.Machine.execSlotOff s
  | .pin => Sys2Proof.Machine.execPin s
  | .unpin => Sys2Proof.Machine.execUnpin s
  | .slotClear => Sys2Proof.Machine.execSlotClear s
  | .readFault => Sys2Proof.Machine.execReadFault s
  | .clearFault => Sys2Proof.Machine.execClearFault s
  | .restart => Sys2Proof.Machine.execRestart s
  | .restartCompletion => Sys2Proof.Machine.execRestartCompletion s
  | .evaluation => Sys2Proof.Machine.execEvaluation s
  | .selectionPass => Sys2Proof.Machine.execSelectionPass s
  | .stepCountdownExpiry slot => Sys2Proof.Machine.execStepCountdownExpiry slot s
  | .limitCountdownExpiry slot => Sys2Proof.Machine.execLimitCountdownExpiry slot s
  | .idleHoldExpiry slot => Sys2Proof.Machine.execIdleHoldExpiry slot s
  | .lifetimeExpiry requester tag => Sys2Proof.Machine.execLifetimeExpiry requester tag s
  | .chainSelection => Sys2Proof.Machine.execChainSelection s
  | .commandSent => Sys2Proof.Machine.execCommandSent s
  | .replyStart => Sys2Proof.Machine.execReplyStart s
  | .responseTimeoutExpiry => Sys2Proof.Machine.execResponseTimeoutExpiry s
  | .replyEnd bytes => Sys2Proof.Machine.execReplyEnd bytes s
  | .outputChoice => Sys2Proof.Machine.execOutputChoice s
  | .transmissionEnd => Sys2Proof.Machine.execTransmissionEnd s
  | .frameReceptionStart => Sys2Proof.Machine.execFrameReceptionStart s
  | .replyByteReceived => Sys2Proof.Machine.execReplyByteReceived s

end Sys2Proof.Machine
end

