-- ==== Sys2Proof/Safety.lean ====
section
/-! DEFINITION. What statements about the hub speak of: which fields an event leaves alone, when a take is due and what its answer
leaves, and the invariants. -/

namespace Sys2Proof.Machine

/-! ## Frames -/

/-- A field of State. -/
inductive Field where
  | hub | supplyLowPin | atnLines | slots | useOrder | committed | wake | joinCounter | evictionSet | evaluationDue
  | passDue | supplyTaken | debounce | shedding | budget | chain | unitMap | requesters | profiles | queues | claims
  | exchange | control | roundRobin | stopped | responseTimeout | attention | timeBase | notices | lostCount | firstLoss
  | fault | receiver | ingress | immediate | responses | transmitter | responseRun | taking | restart | freeIndex
  | pending
deriving DecidableEq, Repr

/-- The two states agree on a field. -/
def Field.same (f : Field) (s t : State) : Prop :=
  match f with
  | .hub => s.hub = t.hub
  | .supplyLowPin => s.supplyLowPin = t.supplyLowPin
  | .atnLines => s.atnLines = t.atnLines
  | .slots => s.slots = t.slots
  | .useOrder => s.useOrder = t.useOrder
  | .committed => s.committed = t.committed
  | .wake => s.wake = t.wake
  | .joinCounter => s.joinCounter = t.joinCounter
  | .evictionSet => s.evictionSet = t.evictionSet
  | .evaluationDue => s.evaluationDue = t.evaluationDue
  | .passDue => s.passDue = t.passDue
  | .supplyTaken => s.supplyTaken = t.supplyTaken
  | .debounce => s.debounce = t.debounce
  | .shedding => s.shedding = t.shedding
  | .budget => s.budget = t.budget
  | .chain => s.chain = t.chain
  | .unitMap => s.unitMap = t.unitMap
  | .requesters => s.requesters = t.requesters
  | .profiles => s.profiles = t.profiles
  | .queues => s.queues = t.queues
  | .claims => s.claims = t.claims
  | .exchange => s.exchange = t.exchange
  | .control => s.control = t.control
  | .roundRobin => s.roundRobin = t.roundRobin
  | .stopped => s.stopped = t.stopped
  | .responseTimeout => s.responseTimeout = t.responseTimeout
  | .attention => s.attention = t.attention
  | .timeBase => s.timeBase = t.timeBase
  | .notices => s.notices = t.notices
  | .lostCount => s.lostCount = t.lostCount
  | .firstLoss => s.firstLoss = t.firstLoss
  | .fault => s.fault = t.fault
  | .receiver => s.receiver = t.receiver
  | .ingress => s.ingress = t.ingress
  | .immediate => s.immediate = t.immediate
  | .responses => s.responses = t.responses
  | .transmitter => s.transmitter = t.transmitter
  | .responseRun => s.responseRun = t.responseRun
  | .taking => s.taking = t.taking
  | .restart => s.restart = t.restart
  | .freeIndex => s.freeIndex = t.freeIndex
  | .pending => s.pending = t.pending

/-- `t` differs from `s` in the listed fields at most. -/
def Unchanged (but : List Field) (s t : State) : Prop := ∀ f : Field, f ∉ but → f.same s t

/-- What an event about one slot and its records can change; settings, tables, reception, ingress, the immediate entries, the
transmitter, the time base and the pins are not among it. -/
abbrev slotEventFields : List Field :=
  [.slots, .useOrder, .committed, .wake, .joinCounter, .evictionSet, .evaluationDue, .passDue, .shedding, .queues, .claims,
    .exchange, .control, .responseTimeout, .attention, .notices, .lostCount, .firstLoss, .fault, .responses]

/-- The slots other than `n` keep their slot record, attention record, queue and profile. -/
def OnlySlot (n : Slot) (s t : State) : Prop :=
  ∀ m : Slot, m ≠ n → t.slot m = s.slot m ∧ t.att m = s.att m ∧ t.queue m = s.queue m ∧ t.profile m = s.profile m

/-! ## Takes -/

/-- The command that takes a frame of a kind. -/
def takeCommand : TakeKind → Instr
  | .data .read => .read
  | .data .write => .write
  | .data .writePosted => .writePosted
  | .readEntry => .readEntry
  | .writeUnit => .writeEntryUnit
  | .writeRequester => .writeEntryRequester
  | .writeProfile => .writeEntryProfile
  | .writeChain => .writeEntryChain
  | .writeBudget => .writeEntryBudget
  | .findUnit => .findUnit
  | .readSlot => .readSlot
  | .readQueue => .readQueue
  | .readBudget => .readBudget
  | .slotWake => .slotWake
  | .slotRest => .slotRest
  | .slotOff => .slotOff
  | .pin => .pin
  | .unpin => .unpin
  | .slotClear => .slotClear
  | .readFault => .readFault
  | .clearFault => .clearFault
  | .restart => .restart

/-- The form check of a kind (admission check 1). -/
def formOk (k : TakeKind) (frame : List Byte) : Bool :=
  match k with
  | .data op => (dataForm op frame).isSome
  | .readEntry => (readEntryArguments frame).isSome
  | .writeUnit => (writeEntryArguments .unit frame).isSome
  | .writeRequester => (writeEntryArguments .requester frame).isSome
  | .writeProfile => (writeEntryArguments .profile frame).isSome
  | .writeChain => (writeEntryArguments .chain frame).isSome
  | .writeBudget => (writeEntryArguments .budget frame).isSome
  | .findUnit => (unitArgument frame).isSome
  | .readSlot => (oneArgument 0x04 frame).isSome
  | .readQueue => (oneArgument 0x05 frame).isSome
  | .readBudget => (noArguments 0x06 frame).isSome
  | .slotWake => (wakeArguments frame).isSome
  | .slotRest => (oneArgument 0x08 frame).isSome
  | .slotOff => (oneArgument 0x09 frame).isSome
  | .pin => (oneArgument 0x0A frame).isSome
  | .unpin => (oneArgument 0x0B frame).isSome
  | .slotClear => (oneArgument 0x0C frame).isSome
  | .readFault => (noArguments 0x0D frame).isSome
  | .clearFault => (oneArgument 0x0E frame).isSome
  | .restart => (noArguments 0x0F frame).isSome

/-- A take is due (R178): the oldest frame of ingress, `rest` behind it, and the entry it reserves. -/
abbrev State.takeDue (s : State) (c : Taken) (frame : List Byte) (rest : List (List Byte)) : Prop :=
  s.running = true ∧ s.taking = true ∧ s.ingress = frame :: rest ∧ s.freeEntry = some c.entry ∧
    c.requester = frameRequester frame ∧ c.tag = frameTag frame

/-- Admission checks 2 and 3 pass. -/
abbrev State.served (s : State) (c : Taken) : Prop :=
  (s.requester c.requester).enabled = true ∧ s.tagInUse c.requester c.tag = false

/-- The requester may manage as well. -/
abbrev State.managed (s : State) (c : Taken) : Prop := s.served c ∧ (s.requester c.requester).manage = true

/-- The frame has left ingress, and its answer stands in the reserved entry and at the tail of the response queue. -/
def State.answered (s : State) (c : Taken) (rest : List (List Byte)) (status : Status) (contents : List Byte) : State :=
  { s with
    ingress := rest
    immediate := s.immediate.set c.entry
      (.ready { requester := c.requester, tag := c.tag, status := status, contents := contents })
    responses := s.responses ++ [.immediate c.entry] }

/-- Checks 5 to 11 pass for a data request, which resolves to the entry (R71). -/
abbrev State.admits (s : State) (c : Taken) (q : DataRequest) (e : UnitEntry) : Prop :=
  (s.lookup q.unit).map (·.2) = some e ∧ e.mask.getLsbD c.requester.val = true ∧ e.permits q.op = true ∧
    q.offset + q.length ≤ e.length ∧ (s.profile e.slot).power.present = true ∧ (s.slot e.slot).state ≠ .faulted ∧
    s.liveCount c.requester < (s.requester c.requester).limit ∧ s.requesterRecords e.slot < (s.profile e.slot).queueLimit ∧
    s.liveTotal < Config.poolSize

/-! ## What an occurrence, an action and a limit leave -/

/-- LINK_CHECK or INGRESS_OVERRUN has been raised (R168, R169): it is folded into the waiting entry of its kind; without one it
is a new entry, or, with the queue full, a drop. -/
def OccurrenceRaised (kind : NoticeKind) (s t : State) : Prop :=
  if (s.notices.drop s.noticesInTransmission).any (fun n => n.kind == kind) then
    ∃ before n after, s.notices = before ++ n :: after ∧ s.noticesInTransmission ≤ before.length ∧ n.kind = kind ∧
      t.notices = before ++ { n with count := min 255 (n.count + 1), data := word32 s.timeBase } :: after ∧
      t.lostCount = s.lostCount ∧ t.firstLoss = s.firstLoss
  else if s.notices.length < 32 then
    t.notices = s.notices ++ [{ kind := kind, stamp := s.timeBase, slot := none, requesterTag := none, unit := none,
                                cause := none, count := 1, data := word32 s.timeBase }] ∧
      t.lostCount = s.lostCount ∧ t.firstLoss = s.firstLoss
  else
    t.notices = s.notices ∧ t.lostCount = min 255 (s.lostCount + 1) ∧
      t.firstLoss = (if s.lostCount = 0 then s.timeBase else s.firstLoss)

/-- A notice of another kind has been raised (R168, R169). -/
def NoticeRaised (n : Notice) (s t : State) : Prop :=
  if s.notices.length < 32 then t.notices = s.notices ++ [n] ∧ t.lostCount = s.lostCount ∧ t.firstLoss = s.firstLoss
  else
    t.notices = s.notices ∧ t.lostCount = min 255 (s.lostCount + 1) ∧
      t.firstLoss = (if s.lostCount = 0 then s.timeBase else s.firstLoss)

/-- The attention record `a` when its action has ended in a notice (R119, R120): in LEVEL mode, as the mode was last read (R131), on
an active line the holdoff runs, and otherwise the action is over. -/
def AttentionEnded (p : Profile) (a b : AttentionRecord) : Prop :=
  if a.senseRead = some .level ∧ a.sensing = true ∧ a.lastLevel = some true then
    b = { a with pending := true, repeatCount := 0, phase := .holdoff, holdoff := some p.holdoff }
  else b = { a with pending := false, repeatCount := 0, phase := .idle, holdoff := none }

/-- The effective limit, which was `old` in `s`, has been set anew by a taken SUPPLY_LOW level or by a write, and `t` has the
arbiter's answer (R32, R54, R64, R65, R66, R67). That the activation of shedding leaves no evaluation due is the model's reading of R40
and R55 (log entry 19, DEDUCED). -/
def LimitAnswered (cause : ActivationCause) (old now : Nat) (s t : State) : Prop :=
  if s.sheds = false ∧ now < s.committed then
    t.shedding = { active := some cause, victims := 0 } ∧ t.evaluationDue = false ∧ (s.restarting = false → t.passDue = true) ∧
      NoticeRaised { kind := .shedStart, stamp := s.timeBase, slot := none, requesterTag := none, unit := none,
                     cause := some (.shedStart cause), count := 0, data := word16 now ++ word16 s.committed } s t
  else if s.sheds = false then
    t.shedding = s.shedding ∧ t.passDue = s.passDue ∧
      t.evaluationDue = (s.evaluationDue || decide (old < now) || decide (cause = .limitWrite)) ∧ t.notices = s.notices
  else if old < now ∧ s.committed ≤ now then
    t.shedding = { s.shedding with active := none } ∧ t.passDue = false ∧ t.evaluationDue = true ∧
      NoticeRaised { kind := .shedEnd, stamp := s.timeBase, slot := none, requesterTag := none, unit := none,
                     cause := some (.shedEnd .limitRaise), count := s.shedding.victims,
                     data := word16 now ++ word16 s.committed } s t
  else
    t.shedding = s.shedding ∧ t.evaluationDue = s.evaluationDue ∧ t.notices = s.notices ∧
      t.passDue = (s.passDue || (decide (now ≠ old) && !s.restarting))

/-- A resting slot has gained a wake reason at a level (R34 to R36): a new entry, or the reason and the level brought to its
entry. -/
def ReasonGained (n : Slot) (why : WakeReason) (level : Level) (s t : State) : Prop :=
  match s.wakeEntry n with
  | none =>
    t.wake = s.wake ++ [{ slot := n, join := s.joinCounter, level := level, reasons := ReasonSet.none.add why, passed := 0 }] ∧
      t.joinCounter = s.joinCounter + 1 ∧ t.evaluationDue = (s.evaluationDue || !s.sheds)
  | some e =>
    t.wakeEntry n = some { e with reasons := e.reasons.add why, level := higherLevel e.level level } ∧
      t.wake.map (·.slot) = s.wake.map (·.slot) ∧ t.joinCounter = s.joinCounter ∧
      t.evaluationDue = (s.evaluationDue || (decide (higherLevel e.level level ≠ e.level) && !s.sheds))

/-! ## The end of an attempt -/

/-- The attempt of `e` ends in the command `c` with outcome `o` (R97): its response timeout expires, or its reply has been received.
The length a READ asked for is the fifth byte of its command frame (11.6). -/
def AttemptEnds (c : Instr) (e : Exchange) (o : AttemptOutcome) (s : State) : Prop :=
  s.running = true ∧ s.exchange = some e ∧ (match c, e.phase with
    | .responseTimeoutExpiry, .awaiting => s.responseTimeout ≠ none ∧ o = .timeout
    | .responseTimeoutExpiry, .receiving => s.responseTimeout ≠ none ∧ o = .checkError
    | .replyEnd bytes, .receiving => judgeReply e.slot e.command ((e.frame[4]?.getD 0).toNat) bytes = o
    | _, _ => False)

/-- The consecutive-failure count after an attempt whose outcome counts (R101). -/
def countAfter (o : AttemptOutcome) (count : Nat) : Nat :=
  match o with
  | .timeout => min 15 (count + 1)
  | .checkError => min 15 (count + 1)
  | .done _ => 0
  | .refused => 0
  | .notReady => 0
  | .failed => 0

/-- The count has not just been raised to the threshold (R102). -/
def State.belowThreshold (s : State) (n : Slot) (o : AttemptOutcome) : Prop :=
  o = .timeout ∨ o = .checkError → countAfter o (s.slot n).failures < s.chain.faultThreshold

/-- The outcome calls for no retry, or the retries are exhausted (R99, R100). -/
def State.attemptsOver (s : State) (e : Exchange) (o : AttemptOutcome) : Prop :=
  (∃ d, o = .done d) ∨ o = .refused ∨ o = .failed ∨ s.chain.retryLimit ≤ e.attempt

/-- The completion status of a final outcome (R86). -/
def statusOf : AttemptOutcome → Status
  | .done _ => .ok
  | .refused => .moduleRefused
  | .failed => .moduleFailed
  | .notReady => .notReady
  | .timeout => .noReply
  | .checkError => .noReply

/-! ## What a fault and a rest leave -/

/-- The fault record has taken a fault (R173). -/
def FaultLatched (kind : FaultKind) (n : Slot) (who : Option (Requester × Byte)) (s t : State) : Prop :=
  match s.fault.latched with
  | none =>
    t.fault = { latched := some { kind := kind, slot := n, stamp := s.timeBase, requesterTag := who },
                serial := s.fault.serial + 1, overflow := 0 }
  | some _ => t.fault = { s.fault with overflow := min 255 (s.fault.overflow + 1) }

/-- The records of a slot that a requester waits for: they complete to the response queue, in queue order (R87). -/
def State.awaited (s : State) (n : Slot) : List Record :=
  (s.queue n).filter (fun r => r.owner != .attention && r.op != .writePosted)

/-- The slot has entered FAULTED (R22, R90, R127, R173): quarantined, switched off, without records, unlisted, its attention state
clear; the fault is taken, and its notice stands in the queue where that had room. `failures` is the count the slot keeps. -/
def FaultEntered (n : Slot) (kind : FaultKind) (who : Option (Requester × Byte)) (failures : Nat) (s t : State) : Prop :=
  t.slot n = { s.slot n with
    state := .faulted, drain := none, switchOff := none, timedOut := none, step := none, limit := none, sen := false,
    failures := failures } ∧
  t.committed = s.committed - (s.slot n).charge ∧ t.queue n = [] ∧
  t.att n = { sensing := false, lastLevel := none, senseRead := none, pending := false, repeatCount := 0, phase := .idle,
              holdoff := none } ∧
  t.wake = s.wake.filter (fun e => e.slot != n) ∧ t.useOrder = s.useOrder.filter (· != n) ∧
  t.control = s.control.filter (fun c => c.slot != n) ∧ t.evictionSet = s.evictionSet.filter (· != n) ∧
  t.responses = s.responses ++ (s.awaited n).map (fun r => .record { r with
    state := .done, deadline := none, status := some (if r.state = .dispatched then .noReply else .slotFaulted),
    readData := if r.op = .read then none else r.readData }) ∧
  FaultLatched kind n who s t ∧
  (s.notices.length + (s.queue n).length + 3 ≤ 32 → ∃ x ∈ t.notices, x.kind = .slotFaulted ∧ x.stamp = s.timeBase ∧ x.slot = some n ∧
    x.requesterTag = who ∧ x.cause = some (.fault kind) ∧ x.count = t.fault.overflow ∧
    x.data = [t.fault.serial, if s.fault.latched = none then 0x01 else 0x00]) ∧
  OnlySlot n s t ∧
  Unchanged [.slots, .committed, .queues, .attention, .wake, .useOrder, .control, .evictionSet, .responses, .fault, .notices,
    .lostCount, .firstLoss, .evaluationDue, .passDue, .shedding, .exchange, .responseTimeout] s t

/-- The slot has been switched off (R2, R3, R14, R19): OFF, the switch open, every mark and countdown clear, the whole charge
released; its records stay. -/
def OffEntered (n : Slot) (failures : Nat) (s t : State) : Prop :=
  t.slot n = { s.slot n with
    state := .off, drain := none, switchOff := none, timedOut := none, step := none, limit := none, sen := false,
    failures := failures } ∧
  t.committed = s.committed - (s.slot n).charge ∧ t.queue n = s.queue n ∧ t.useOrder = s.useOrder.filter (· != n) ∧
  t.control = s.control.filter (fun c => c.slot != n) ∧ t.evictionSet = s.evictionSet.filter (· != n) ∧
  (s.queue n ≠ [] → t.listed n = true) ∧ (t.att n).sensing = false ∧ (t.att n).lastLevel = none ∧
  (t.att n).senseRead = none ∧ OnlySlot n s t ∧
  Unchanged slotEventFields s t

/-! ## Invariants -/

/-- Every SEN line follows its slot's state (R3). -/
abbrev State.senFollows (s : State) : Prop := ∀ n : Slot, (s.slot n).sen = (s.slot n).state.powered

/-- The notice queue keeps to its capacity, notices are counted as lost only while it is full, and a notice in transmission
stands in it (R167, R169); in the hold none has been lost (R190). -/
abbrev State.noticesSound (s : State) : Prop :=
  s.notices.length ≤ Config.noticeQueueSize ∧ (s.lostCount ≠ 0 → s.notices.length = Config.noticeQueueSize) ∧
    s.lostCount ≤ 255 ∧ s.noticesInTransmission ≤ s.notices.length ∧ (s.running = false → s.lostCount = 0)

/-- Ingress keeps to its capacity (R177). -/
abbrev State.ingressSound (s : State) : Prop := s.ingress.length ≤ Config.ingressSize

/-- The pool is not overdrawn (R70), and no requester exceeds its outstanding limit (R77). -/
abbrev State.recordsBounded (s : State) : Prop :=
  s.liveTotal ≤ Config.poolSize ∧ ∀ r : Requester, s.liveCount r ≤ (s.requester r).limit

/-- No two live records share a requester and a tag (R73). -/
def State.tagsDistinct (s : State) : Prop :=
  s.liveRecords.Pairwise (fun x y => x.owner = y.owner → x.owner ≠ .attention → x.tag ≠ y.tag)

/-- A record stands in the queue of its own slot (R69, R82). -/
abbrev State.queuesSound (s : State) : Prop := ∀ n : Slot, ∀ r ∈ s.queue n, r.slot = n

/-- A record that is not QUEUED is DISPATCHED at the head of its slot's queue, and its data exchange is in flight for the slot, which
is AWAKE or DRAINING (R83, R87). -/
abbrev State.dispatchesSound (s : State) : Prop :=
  ∀ n : Slot, (∀ r ∈ (s.queue n).tail, r.state = .queued) ∧
    ∀ r ∈ (s.queue n).take 1, r.state ≠ .queued →
      r.state = .dispatched ∧ ((s.slot n).state = .awake ∨ (s.slot n).state = .draining) ∧
        s.exchange.map (fun e => (e.slot, e.command)) = some (n, commandOf r.op)

/-- A claim waits only while no record is free (R79). -/
abbrev State.claimsSound (s : State) : Prop := s.claims = [] ∨ Config.poolSize ≤ s.liveTotal

/-- An immediate entry that is READY stands in the response queue, once, and no other entry does (R178, R179); the entry of a
RESTART that waits is RESERVED (R183). -/
def State.responsesSound (s : State) : Prop :=
  (∀ i : Fin 16, (∃ r, s.immediate[i] = .ready r) ↔ ResponseItem.immediate i ∈ s.responses) ∧
    (∀ i : Fin 16, s.responses.count (.immediate i) ≤ 1) ∧
    (match s.restart with
      | .waiting entry _ _ => s.immediate[entry] = .reserved ∧ s.taking = false
      | .noRestart => True)

/-- A Unit Map entry within the ranges of R133 and R134. -/
def unitInRange (e : UnitEntry) : Bool :=
  e.number ≤ 65535 && 1 ≤ e.length && e.base + e.length ≤ 65536 && e.defaultLifetime ≤ 65535 && !(e.valid && e.number == 0)

/-- No two valid unit map entries share a unit number, and none has unit number 0 (R134). -/
abbrev State.unitsDistinct (s : State) : Prop :=
  (∀ i : Fin 128, s.unitMap[i].valid = true → s.unitMap[i].number ≠ 0) ∧
    ∀ i j : Fin 128, s.unitMap[i].valid = true → s.unitMap[j].valid = true → s.unitMap[i].number = s.unitMap[j].number → i = j

/-- The charge of a powered slot is its profile's, whose standby weight is within its awake weight (R2, R141). -/
abbrev State.grantsSound (s : State) : Prop :=
  ∀ n : Slot, (s.profile n).power.standby ≤ (s.profile n).power.awake ∧
    ((s.slot n).state.powered = true →
      (s.slot n).grantedAwake = (s.profile n).power.awake ∧ (s.slot n).grantedStandby = (s.profile n).power.standby)

/-- While shedding is inactive, committed weight does not exceed the effective limit (R42). -/
abbrev State.limitKept (s : State) : Prop := s.sheds = false → s.committed ≤ s.effectiveLimit

/-- A control command is on its way to a slot in the state that asked for it (R104, R107); `waiting` while it is queued. -/
def controlSound (waiting : Bool) (command : ChainCommand) (st : SlotState) : Prop :=
  match command with
  | .identify => st.comingUp = true
  | .wake => st = .waking
  | .slumber => if waiting then st = .draining else st = .settling
  | .read => waiting = false
  | .write => waiting = false

/-- Committed weight is the sum of the charges (R27), with what that rests on: the grants, the wake list holding resting slots
only (R33), the control exchanges, and a use-order list without repetition (R18). -/
def State.weightsSound (s : State) : Prop :=
  s.committed = s.chargeSum ∧ s.grantsSound ∧ (∀ e ∈ s.wake, (s.slot e.slot).state.resting = true) ∧
    (∀ c ∈ s.control, controlSound true c.command (s.slot c.slot).state) ∧
    (∀ e, s.exchange = some e → controlSound false e.command (s.slot e.slot).state) ∧ s.useOrder.Nodup

end Sys2Proof.Machine
end

