-- ==== Sys2Proof/Certificates/Slice0/Obligations.lean ====
section
/-! DEFINITION. The statements about the hub. -/

open Sys2Proof Sys2Proof.Machine

/-! ## The step -/

/-- One step runs the command at the front of the queue on the state with the queue's rest; on an empty queue it leaves the state as
it is, which is the model's choice (log entry 4). -/
def Obligations.StepRunsFrontCommand : Prop :=
  (∀ (c : Instr) (rest : List Instr) (s : State),
    step { s with pending := c :: rest } = exec c { s with pending := rest }) ∧
  ∀ s : State, s.pending = [] → step s = .next s

/-! ## Reset, start, time -/

/-- The values a cold reset leaves, as the chapters give them (R1, R3, R27, R30, R31, R50, R53, R93, R94, R114, R117, R133, R137,
R140, R166, R169, R172, R175, R161). -/
def Obligations.ResetLeavesCatalogueValues : Prop :=
  (∀ n : Slot,
    State.reset.slot n =
      { state := .off, grantedAwake := 0, grantedStandby := 0, drain := none, switchOff := none, timedOut := none, pin := false,
        failures := 0, step := none, limit := none, sen := false } ∧
    State.reset.queue n = [] ∧
    State.reset.att n =
      { sensing := false, lastLevel := none, senseRead := none, pending := false, repeatCount := 0, phase := .idle,
        holdoff := none } ∧
    State.reset.profile n =
      { power := { present := false, awake := 1, standby := 0, restMode := .slumber, moduleType := 0, powerUpDelay := 50,
                   powerUpTimeout := 500, wakeDelay := 2, wakeTimeout := 20 },
        idleHold := 100, queueLimit := 4, sense := .edge, action := .ignore, attentionLevel := .normal, fetchOffset := 0,
        fetchLength := 1, holdoff := 10, report := false }) ∧
  State.reset.requester 0 = { enabled := true, manage := true, limit := 16, ceiling := .urgent } ∧
  (∀ r : Requester, r ≠ 0 → State.reset.requester r = { enabled := false, manage := false, limit := 0, ceiling := .normal }) ∧
  (∀ i : Fin 128, State.reset.unitMap[i] =
    { valid := false, number := 0, slot := 0, base := 0, length := 1, level := .normal, mask := 0, read := false,
      write := false, post := false, defaultLifetime := 0 }) ∧
  State.reset.budget = { normalLimit := 0, reducedLimit := 0, bypassAllowance := 2, debounce := 5, gate := .opened } ∧
  State.reset.chain = { responseTimeout := 500, retryLimit := 2, faultThreshold := 4, pollInterval := 1 } ∧
  State.reset.committed = 0 ∧ State.reset.projected = 0 ∧ State.reset.wake = [] ∧ State.reset.joinCounter = 0 ∧
  State.reset.evictionSet = [] ∧ State.reset.evaluationDue = false ∧ State.reset.supplyTaken = false ∧
  State.reset.shedding = { active := none, victims := 0 } ∧ State.reset.useOrder = [] ∧ State.reset.liveTotal = 0 ∧
  State.reset.claims = [] ∧ State.reset.exchange = none ∧ State.reset.control = [] ∧ State.reset.roundRobin = 23 ∧
  State.reset.stopped = false ∧ State.reset.timeBase = 0 ∧ State.reset.lostCount = 0 ∧ State.reset.firstLoss = 0 ∧
  State.reset.fault = { latched := none, serial := 0, overflow := 0 } ∧ State.reset.receiver = .idle ∧
  State.reset.ingress = [] ∧ (∀ i : Fin 16, State.reset.immediate[i] = .free) ∧ State.reset.responses = [] ∧
  State.reset.transmitter = .idle ∧ State.reset.responseRun = 0 ∧ State.reset.taking = true ∧
  State.reset.restart = .noRestart

/-- COLD_RESET from any state holds the hub with every block at its reset values, and while the hub is held no event but a reset or
the start acts on it (R190). That the levels of SUPPLY_LOW and the ATN lines stay as they are is log entry 7, that a reset of a held
hub takes the new cause is log entry 21, and that the queue of commands and the counter of free values stay is the model's own
(log entries 4 and 1). -/
def Obligations.ColdResetHoldsHub : Prop :=
  (∀ (cause : ResetCause) (s : State), ∃ t, exec (.coldReset cause) s = .next t ∧ t.hub = .held cause ∧
    Unchanged [.hub, .supplyLowPin, .atnLines, .freeIndex, .pending] State.reset t ∧
    t.supplyLowPin = s.supplyLowPin ∧ t.atnLines = s.atnLines ∧ t.freeIndex = s.freeIndex ∧ t.pending = s.pending) ∧
  ∀ (cause : ResetCause) (s : State) (c : Instr), s.hub = .held cause → (∀ k, c ≠ .coldReset k) → c ≠ .start →
    ∃ t, exec c s = .next t ∧ Unchanged [.supplyLowPin, .atnLines] s t ∧
      t.supplyLowPin = (match c with
        | .supplyLowChange b => b
        | _ => s.supplyLowPin) ∧
      t.atnLines = (match c with
        | .atnChange n b => s.atnLines.set n b
        | _ => s.atnLines)

/-- START ends the hold: READY, with its cause and stamp 0, is created and starts, and the debounce is loaded with 5 ms where
SUPPLY_LOW is asserted (R191, R171). -/
def Obligations.StartSendsReady : Prop :=
  ∀ (cause : ResetCause) (s : State), s.hub = .held cause →
    let ready : Notice :=
      { kind := .ready, stamp := 0, slot := none, requesterTag := none, unit := none, cause := some (.ready (.reset cause)),
        count := 0, data := [] }
    exec .start s = .next { s with
      hub := .running, timeBase := 0, notices := [ready], transmitter := .notice (noticeFrame ready), responseRun := 0,
      debounce := if s.supplyLowPin then some 5 else none }

/-- TIME_BASE_ADVANCE adds one, wrapping from FFFFFFFFh to 0, and changes nothing else; no other event but a reset and the start
writes the time base, a warm restart among them (R166). -/
def Obligations.TimeBaseAdvancesAndWraps : Prop :=
  (∀ s : State, s.running = true →
    exec .timeBaseAdvance s = .next { s with timeBase := s.timeBase + 1 } ∧ (s.timeBase = 0xFFFFFFFF → s.timeBase + 1 = 0)) ∧
  ∀ (c : Instr) (s t : State), (∀ k, c ≠ .coldReset k) → c ≠ .start → c ≠ .timeBaseAdvance → exec c s = .next t →
    t.timeBase = s.timeBase

/-! ## SUPPLY_LOW (R31, R32) -/

/-- SUPPLY_LOW_CHANGE loads the debounce countdown, or with a debounce of 0 takes the level in the event itself. The expiry of the
countdown takes a pin level that differs from the taken level, and the limit in force changes with it; a level equal to the taken
one leaves nothing to take. The arbiter answers to the limit in force: shedding may start, end or stay, or an evaluation may become
due (R31, R32, R40, R54, R55, R64 to R67). That an evaluation that was due is dropped in the event in which shedding becomes active
is the model's reading of R40 and R55, which is log entry 19 (DEDUCED). -/
def Obligations.SupplyLowIsDebouncedAndTaken : Prop :=
  (∀ (b : Bool) (s : State), s.running = true → b ≠ s.supplyLowPin →
    (s.budget.debounce ≠ 0 →
      exec (.supplyLowChange b) s = .next { s with supplyLowPin := b, debounce := some s.budget.debounce }) ∧
    (s.budget.debounce = 0 → b = s.supplyTaken →
      exec (.supplyLowChange b) s = .next { s with supplyLowPin := b, debounce := none }) ∧
    (s.budget.debounce = 0 → b ≠ s.supplyTaken →
      ∃ t, exec (.supplyLowChange b) s = .next t ∧ t.supplyLowPin = b ∧ t.supplyTaken = b ∧ t.debounce = none ∧
        LimitAnswered .supplyLow s.effectiveLimit (if b then s.budget.reducedLimit else s.budget.normalLimit) s t ∧
        Unchanged [.supplyLowPin, .supplyTaken, .debounce, .shedding, .evaluationDue, .passDue, .notices, .lostCount, .firstLoss]
          s t)) ∧
  ∀ (ms : Nat) (s : State), s.running = true → s.debounce = some ms →
    (s.supplyLowPin = s.supplyTaken → exec .supplyLowDebounceExpiry s = .next { s with debounce := none }) ∧
    (s.supplyLowPin ≠ s.supplyTaken →
      ∃ t, exec .supplyLowDebounceExpiry s = .next t ∧ t.supplyTaken = s.supplyLowPin ∧ t.debounce = none ∧
        LimitAnswered .supplyLow s.effectiveLimit
          (if s.supplyLowPin then s.budget.reducedLimit else s.budget.normalLimit) s t ∧
        Unchanged [.supplyTaken, .debounce, .shedding, .evaluationDue, .passDue, .notices, .lostCount, .firstLoss] s t)

/-! ## Attention lines (chapter 6) -/

/-- ATN_CHANGE of a line whose changes are not taken moves the pin only: a line that is not sensed (R118), any line while a warm
restart waits (R129, R161), any line while the hub is held (R190). A command that repeats the present level moves nothing, which is
log entry 2. -/
def Obligations.UnsensedLineIsNotTaken : Prop :=
  ∀ (n : Slot) (b : Bool) (s : State), s.running = false ∨ (s.att n).sensing = false ∨ s.restarting = true →
    exec (.atnChange n b) s = .next { s with atnLines := s.atnLines.set n b }

/-- A deactivation of a sensed line: EDGE mode updates the last level only; LEVEL mode clears pending, and ends what has not yet
been asked of the module (R119, R120, R124). -/
def Obligations.DeactivationFollowsSenseMode : Prop :=
  ∀ (n : Slot) (s : State), s.senses n = true → s.atnLines[n] = true → s.claimsSound →
    let a : AttentionRecord := { s.att n with lastLevel := some false, senseRead := some (s.profile n).sense }
    ∃ t, exec (.atnChange n false) s = .next t ∧ t.atnLines = s.atnLines.set n false ∧
      Unchanged [.atnLines, .attention, .claims, .wake, .evaluationDue] s t ∧ OnlySlot n s t ∧
      (match (s.profile n).sense, (s.att n).phase with
        | .edge, _ => t.att n = a ∧ t.claims = s.claims ∧ t.wake = s.wake
        | .level, .idle => t.att n = { a with pending := false } ∧ t.claims = s.claims ∧ t.wake = s.wake
        | .level, .fetching => t.att n = { a with pending := false } ∧ t.claims = s.claims ∧ t.wake = s.wake
        | .level, .holdoff =>
          t.att n = { a with pending := false, repeatCount := 0, phase := .idle, holdoff := none } ∧ t.claims = s.claims ∧
            t.wake = s.wake
        | .level, .waitingRecord =>
          t.att n = { a with pending := false, repeatCount := 0, phase := .idle, holdoff := none } ∧ n ∉ t.claims ∧
            t.wake = s.wake
        | .level, .waitingAwake =>
          t.att n = { a with pending := false, repeatCount := 0, phase := .idle, holdoff := none } ∧ t.claims = s.claims ∧
            (s.wake.Pairwise (fun x y => x.slot ≠ y.slot) → ∀ e, t.wakeEntry n = some e → e.reasons.attention = false))

/-- An activation of a sensed line: it starts the action in force from IDLE, counts as a repeat while one is in progress, and does
nothing under IGNORE (R119, R120, R121, R123, R125). -/
def Obligations.ActivationStartsOrCounts : Prop :=
  ∀ (n : Slot) (s : State), s.senses n = true → s.atnLines[n] = false → s.claimsSound → (s.att n).phase ≠ .holdoff →
    let a : AttentionRecord := { s.att n with lastLevel := some true, senseRead := some (s.profile n).sense }
    let p := s.profile n
    let notice : Notice :=
      { kind := .attention, stamp := s.timeBase, slot := some n, requesterTag := none, unit := none, cause := some (.status .ok),
        count := a.repeatCount, data := [] }
    ∃ t, exec (.atnChange n true) s = .next t ∧ t.atnLines = s.atnLines.set n true ∧ (∀ m, m ≠ n → t.att m = s.att m) ∧
      (match (s.att n).phase, p.action with
        | .idle, .ignore => t = { s with atnLines := s.atnLines.set n true, attention := s.attention.set n a }
        | .idle, .notify => AttentionEnded p { a with pending := true } (t.att n) ∧ NoticeRaised notice s t ∧
            Unchanged [.atnLines, .attention, .notices, .lostCount, .firstLoss] s t
        | .idle, .wakeNotify =>
          if (s.slot n).state = .awake then
            AttentionEnded p { a with pending := true } (t.att n) ∧ NoticeRaised notice s t ∧
              Unchanged [.atnLines, .attention, .notices, .lostCount, .firstLoss] s t
          else
            t.att n = { a with pending := true, phase := .waitingAwake } ∧
              ((s.slot n).state = .slumber → ReasonGained n .attention p.attentionLevel s t) ∧
              Unchanged [.atnLines, .attention, .wake, .joinCounter, .evaluationDue] s t
        | .idle, .fetch =>
          if s.liveTotal < 96 then
            t.att n = { a with pending := true, phase := .fetching } ∧
              t.queue n = s.queue n ++
                [{ owner := .attention, tag := none, unit := none, slot := n, op := .read, address := p.fetchOffset,
                   length := p.fetchLength, writeData := none, readData := none, level := p.attentionLevel, deadline := none,
                   state := .queued, attempt := 0, status := none }]
          else
            t.att n = { a with pending := true, phase := .waitingRecord } ∧ t.claims = s.claims ++ [n] ∧
              Unchanged [.atnLines, .attention, .claims] s t
        | .holdoff, _ => True
        | .waitingRecord, _ => t = { s with
            atnLines := s.atnLines.set n true
            attention := s.attention.set n { a with pending := true, repeatCount := min 255 (a.repeatCount + 1) } }
        | .fetching, _ => t = { s with
            atnLines := s.atnLines.set n true
            attention := s.attention.set n { a with pending := true, repeatCount := min 255 (a.repeatCount + 1) } }
        | .waitingAwake, _ => t = { s with
            atnLines := s.atnLines.set n true
            attention := s.attention.set n { a with pending := true, repeatCount := min 255 (a.repeatCount + 1) } })

/-- ATTENTION_HOLDOFF_EXPIRY runs the action in force again while the mode is LEVEL and the action not IGNORE, and otherwise
clears pending; here for an action of one step (R120, R131). -/
def Obligations.HoldoffExpiryRepeatsAction : Prop :=
  ∀ (n : Slot) (ms : Nat) (s : State), s.running = true → (s.att n).phase = .holdoff → (s.att n).holdoff = some ms →
    s.claimsSound →
    let p := s.profile n
    (p.sense = .edge ∨ p.action = .ignore →
      exec (.attentionHoldoffExpiry n) s = .next { s with attention := s.attention.set n { s.att n with
        senseRead := some p.sense, pending := false, repeatCount := 0, phase := .idle, holdoff := none } }) ∧
    (p.sense = .level → p.action = .notify ∨ p.action = .wakeNotify ∧ (s.slot n).state = .awake →
      ∃ t, exec (.attentionHoldoffExpiry n) s = .next t ∧
        AttentionEnded p { s.att n with senseRead := some .level, pending := true, phase := .idle, holdoff := none } (t.att n) ∧
        NoticeRaised { kind := .attention, stamp := s.timeBase, slot := some n, requesterTag := none, unit := none,
                       cause := some (.status .ok), count := (s.att n).repeatCount, data := [] } s t ∧
        Unchanged [.attention, .notices, .lostCount, .firstLoss] s t ∧ (∀ m, m ≠ n → t.att m = s.att m)) ∧
    (p.sense = .level → p.action = .wakeNotify → (s.slot n).state ≠ .awake →
      ∃ t, exec (.attentionHoldoffExpiry n) s = .next t ∧
        t.att n = { s.att n with senseRead := some .level, pending := true, phase := .waitingAwake, holdoff := none } ∧
        ((s.slot n).state = .slumber → ReasonGained n .attention p.attentionLevel s t)) ∧
    (p.sense = .level → p.action = .fetch →
      ∃ t, exec (.attentionHoldoffExpiry n) s = .next t ∧
        t.att n = { s.att n with
          senseRead := some .level, pending := true, phase := if s.liveTotal < 96 then .fetching else .waitingRecord,
          holdoff := none })

/-! ## Reception (R176, R177) -/

/-- FRAME_ARRIVAL of any REQUEST frame as R184 has it sent, with up to 42 bytes of contents: it joins ingress at the tail, or with
eight frames there it is discarded with INGRESS_OVERRUN (R176, R177, R184). -/
def Obligations.GoodFrameReachesIngress : Prop :=
  ∀ (r tag : Byte) (rest : List Byte) (s : State), r.toNat < 8 → rest.length ≤ 40 → s.running = true →
    s.receiver = .receiving →
    let frame := r :: tag :: rest
    (s.ingress.length < 8 → exec (.frameArrival (linkFrame 0x01 frame).tail) s = .next { s with
      receiver := .idle, ingress := s.ingress ++ [frame] }) ∧
    (8 ≤ s.ingress.length → ∃ t, exec (.frameArrival (linkFrame 0x01 frame).tail) s = .next t ∧ t.receiver = .idle ∧
      OccurrenceRaised .ingressOverrun s t ∧ Unchanged [.receiver, .notices, .lostCount, .firstLoss] s t)

/-- FRAME_RECEPTION_START opens a frame; inside a frame it ends that frame as bad and opens the next. FRAME_ARRIVAL of a bad frame:
LINK_CHECK and nothing else, the receiver IDLE again unless an opening delimiter inside the frame has opened a new one (R176). -/
def Obligations.BadFrameRaisesLinkCheck : Prop :=
  (∀ s : State, s.running = true →
    (s.receiver = .idle → exec .frameReceptionStart s = .next { s with receiver := .receiving }) ∧
    (s.receiver = .receiving → ∃ t, exec .frameReceptionStart s = .next t ∧ OccurrenceRaised .linkCheck s t ∧
      Unchanged [.notices, .lostCount, .firstLoss] s t)) ∧
  ∀ (bytes : List Byte) (s : State), s.running = true → s.receiver = .receiving →
    (∀ reopened, receive [] false bytes = .bad reopened →
      ∃ t, exec (.frameArrival bytes) s = .next t ∧ t.receiver = (if reopened then .receiving else .idle) ∧
        OccurrenceRaised .linkCheck s t ∧ Unchanged [.receiver, .notices, .lostCount, .firstLoss] s t) ∧
    (∀ body, receive [] false bytes = .closed body →
      (body.length < 5 ∨ body.drop (body.length - 2) ≠ word16 (crc16 (body.take (body.length - 2))).toNat ∨
        body.head? ≠ some 0x01 ∨ (∀ r, body[1]? = some r → 8 ≤ r.toNat)) →
      ∃ t, exec (.frameArrival bytes) s = .next t ∧ t.receiver = .idle ∧ OccurrenceRaised .linkCheck s t ∧
        Unchanged [.receiver, .notices, .lostCount, .firstLoss] s t)

/-- Ingress: a frame that passes the reception's checks joins at the tail of fewer than eight, and with eight there it is discarded
with INGRESS_OVERRUN and no other trace. Frames leave only from the head, one in each take, or all at once at a cold reset; a warm
restart keeps them (R177). -/
def Obligations.IngressIsFirstInFirstOut : Prop :=
  (∀ (bytes body frame : List Byte) (s : State), s.running = true → s.receiver = .receiving →
    receive [] false bytes = .closed body → requestContents body = some frame →
    (s.ingress.length < 8 →
      exec (.frameArrival bytes) s = .next { s with receiver := .idle, ingress := s.ingress ++ [frame] }) ∧
    (8 ≤ s.ingress.length → ∃ t, exec (.frameArrival bytes) s = .next t ∧ t.receiver = .idle ∧
      OccurrenceRaised .ingressOverrun s t ∧ Unchanged [.receiver, .notices, .lostCount, .firstLoss] s t)) ∧
  (∀ (k : TakeKind) (frame : List Byte) (rest : List (List Byte)) (c : Taken) (s : State), s.takeDue c frame rest →
    takeKindOf frame = some k → ∃ t, exec (takeCommand k) s = .next t ∧ t.ingress = rest) ∧
  (∀ (cause : ResetCause) (s : State), ∃ t, exec (.coldReset cause) s = .next t ∧ t.ingress = []) ∧
  ∀ (c : Instr) (s t : State), exec c s = .next t →
    t.ingress = s.ingress ∨ (∃ f, t.ingress = s.ingress ++ [f] ∧ s.ingress.length < 8 ∧ ∃ bytes, c = .frameArrival bytes) ∨
      (t.ingress = s.ingress.tail ∧ ∃ k, c = takeCommand k) ∨ (t.ingress = [] ∧ ∃ cause, c = .coldReset cause)

/-! ## Takes: the checks every request passes (R71 to R74, R146) -/

/-- Checks 1 to 3, and the manage right: the first that fails names the refusal, the answer stands in the reserved entry and in the
response queue, and nothing else changes (R71, R72, R73, R146). A frame that names no operation is MALFORMED whichever take
command takes it (log entry 5). -/
def Obligations.CommonChecksRefuseInOrder : Prop :=
  ∀ (k : TakeKind) (frame : List Byte) (rest : List (List Byte)) (c : Taken) (s : State), s.takeDue c frame rest →
    (takeKindOf frame = none ∨ (takeKindOf frame = some k ∧ formOk k frame = false) →
      exec (takeCommand k) s = .next (s.answered c rest .malformed [])) ∧
    (takeKindOf frame = some k → formOk k frame = true →
      ((s.requester c.requester).enabled = false → exec (takeCommand k) s = .next (s.answered c rest .requesterOff [])) ∧
      ((s.requester c.requester).enabled = true → s.tagInUse c.requester c.tag = true →
        exec (takeCommand k) s = .next (s.answered c rest .tagInUse [])) ∧
      ((∀ op, k ≠ .data op) → s.served c → (s.requester c.requester).manage = false →
        exec (takeCommand k) s = .next (s.answered c rest .notAllowed [])))

/-- Checks 5 to 11 of a data request: the first that fails names the refusal, and nothing else changes (R71, R75 to R79). -/
def Obligations.AdmissionRefusesInOrder : Prop :=
  ∀ (op : DataOp) (q : DataRequest) (frame : List Byte) (rest : List (List Byte)) (c : Taken) (s : State),
    s.takeDue c frame rest → takeKindOf frame = some (.data op) → dataForm op frame = some q → s.served c →
    (s.lookup q.unit = none → exec (takeCommand (.data op)) s = .next (s.answered c rest .unknownUnit [])) ∧
    (∀ i e, s.lookup q.unit = some (i, e) →
      let refusal : Option Status :=
        if e.mask.getLsbD c.requester.val = false then some .denied
        else if (match op with
          | .read => e.read
          | .write => e.write
          | .writePosted => e.post) = false then some .denied
        else if e.length < q.offset + q.length then some .range
        else if (s.profile e.slot).power.present = false then some .slotAbsent
        else if (s.slot e.slot).state = .faulted then some .slotFaulted
        else if (s.requester c.requester).limit ≤ s.liveCount c.requester then some .requesterFull
        else if (s.profile e.slot).queueLimit ≤ s.requesterRecords e.slot then some .queueFull
        else if 96 ≤ s.liveTotal then some .busy
        else none
      ∀ st, refusal = some st → exec (takeCommand (.data op)) s = .next (s.answered c rest st []))

/-- READ, WRITE and WRITE_POSTED that pass all checks: the record stands at the tail of its slot's queue with every field R68 gives
it, a posted write is answered POSTED, a READ or WRITE not yet, and the slot is acted on by its state (R68, R71, R80, R81, R84,
R89, R178). No claim waits when a record is free (`claimsSound`). -/
def Obligations.AcceptedRequestBecomesRecord : Prop :=
  ∀ (op : DataOp) (q : DataRequest) (e : UnitEntry) (frame : List Byte) (rest : List (List Byte)) (c : Taken) (s : State),
    s.takeDue c frame rest → takeKindOf frame = some (.data op) → dataForm op frame = some q → s.served c → s.admits c q e →
    s.claimsSound →
    let n := e.slot
    let r : Record :=
      { owner := .requester c.requester, tag := some c.tag, unit := some q.unit, slot := n, op := op,
        address := e.base + q.offset, length := q.length,
        writeData := match op with
          | .read => none
          | .write => some q.data
          | .writePosted => some q.data
        readData := none,
        level := if e.level = .urgent ∧ (s.requester c.requester).ceiling = .urgent then .urgent else .normal,
        deadline := if 0 < q.lifetime then some q.lifetime
          else if 0 < e.defaultLifetime then some e.defaultLifetime else none,
        state := .queued, attempt := 0, status := none }
    ∃ t, exec (takeCommand (.data op)) s = .next t ∧ t.ingress = rest ∧ t.queue n = s.queue n ++ [r] ∧
      (∀ m, m ≠ n → t.slot m = s.slot m ∧ t.queue m = s.queue m) ∧ t.liveCount c.requester = s.liveCount c.requester + 1 ∧
      (if op = .writePosted then
        t.responses = s.responses ++ [.immediate c.entry] ∧
          t.immediate = s.immediate.set c.entry
            (.ready { requester := c.requester, tag := c.tag, status := .posted, contents := [] })
      else t.responses = s.responses ∧ t.immediate = s.immediate) ∧
      (match (s.slot n).state with
        | .awake => t.slot n = { s.slot n with step := none }
        | .draining => (match (s.slot n).drain with
            | some d => if d.cause = .idle then (t.slot n).state = .awake ∧ (t.slot n).drain = none ∧ (t.slot n).step = none
              else t.slot n = s.slot n
            | none => t.slot n = s.slot n)
        | .off => t.slot n = s.slot n ∧ t.listed n = true
        | .slumber => t.slot n = s.slot n ∧ t.listed n = true
        | .powering => t.slot n = s.slot n
        | .waking => t.slot n = s.slot n
        | .settling => t.slot n = s.slot n
        | .faulted => True) ∧
      Unchanged [.ingress, .queues, .slots, .control, .attention, .notices, .lostCount, .firstLoss, .wake, .joinCounter,
        .evaluationDue, .passDue, .immediate, .responses] s t

/-! ## Tables (chapter 7, R148 to R150) -/

/-- READ_ENTRY returns the entry in its layout, for each of the five tables; an index outside its range is refused (R145, R147,
R148). -/
def Obligations.ReadEntryReturnsLayout : Prop :=
  ∀ (tb : Table) (i : Nat) (frame : List Byte) (rest : List (List Byte)) (c : Taken) (s : State), s.takeDue c frame rest →
    takeKindOf frame = some .readEntry → readEntryArguments frame = some (tb, i) → s.managed c →
    exec .readEntry s = .next (match tb with
      | .unit => if h : i < 128 then s.answered c rest .ok (layUnitEntry s.unitMap[i]) else s.answered c rest .badIndex []
      | .profile => if h : i < 24 then s.answered c rest .ok (layProfile (s.profile ⟨i, h⟩)) else s.answered c rest .badIndex []
      | .requester =>
        if h : i < 8 then s.answered c rest .ok (layRequesterEntry (s.requester ⟨i, h⟩)) else s.answered c rest .badIndex []
      | .chain => if i = 0 then s.answered c rest .ok (layChainSettings s.chain) else s.answered c rest .badIndex []
      | .budget => if i = 0 then s.answered c rest .ok (layBudgetSettings s.budget) else s.answered c rest .badIndex [])

/-- WRITE_ENTRY_UNIT: BAD_INDEX, BAD_VALUE, DUPLICATE, or the entry is replaced whole and nothing that is live changes (R132, R134,
R136, R147). -/
def Obligations.WriteUnitEntryChecksAndStores : Prop :=
  ∀ (i : Nat) (bytes frame : List Byte) (rest : List (List Byte)) (c : Taken) (s : State), s.takeDue c frame rest →
    takeKindOf frame = some .writeUnit → writeEntryArguments .unit frame = some (i, bytes) → s.managed c →
    (128 ≤ i → exec .writeEntryUnit s = .next (s.answered c rest .badIndex [])) ∧
    ∀ h : i < 128,
      (readUnitEntry bytes = none → exec .writeEntryUnit s = .next (s.answered c rest .badValue [])) ∧
      ∀ e, readUnitEntry bytes = some e →
        ((e.valid = true ∧ ∃ j : Fin 128, j.val ≠ i ∧ s.unitMap[j].valid = true ∧ s.unitMap[j].number = e.number) →
          exec .writeEntryUnit s = .next (s.answered c rest .duplicate [])) ∧
        (¬ (e.valid = true ∧ ∃ j : Fin 128, j.val ≠ i ∧ s.unitMap[j].valid = true ∧ s.unitMap[j].number = e.number) →
          exec .writeEntryUnit s = .next { s.answered c rest .ok [] with unitMap := s.unitMap.set i e })

/-- WRITE_ENTRY_REQUESTER: BAD_INDEX, BAD_VALUE, IN_USE below the live count, or the entry is replaced (R137, R138, R139). -/
def Obligations.WriteRequesterEntryChecksAndStores : Prop :=
  ∀ (i : Nat) (bytes frame : List Byte) (rest : List (List Byte)) (c : Taken) (s : State), s.takeDue c frame rest →
    takeKindOf frame = some .writeRequester → writeEntryArguments .requester frame = some (i, bytes) → s.managed c →
    (8 ≤ i → exec .writeEntryRequester s = .next (s.answered c rest .badIndex [])) ∧
    ∀ h : i < 8,
      (readRequesterEntry bytes = none → exec .writeEntryRequester s = .next (s.answered c rest .badValue [])) ∧
      ∀ e, readRequesterEntry bytes = some e →
        (e.limit ≠ (s.requester ⟨i, h⟩).limit → e.limit < s.liveCount ⟨i, h⟩ →
          exec .writeEntryRequester s = .next (s.answered c rest .inUse [])) ∧
        (e.limit = (s.requester ⟨i, h⟩).limit ∨ s.liveCount ⟨i, h⟩ ≤ e.limit →
          exec .writeEntryRequester s = .next { s.answered c rest .ok [] with requesters := s.requesters.set i e })

/-- WRITE_ENTRY_PROFILE: BAD_INDEX, BAD_VALUE, IN_USE for a changed power field of a slot with charge or work, or the profile is
replaced; a changed idle hold acts on an idle slot, and a changed power field of a listed slot makes an evaluation due (R141,
R142, R144). -/
def Obligations.WriteProfileChecksAndStores : Prop :=
  ∀ (i : Nat) (bytes frame : List Byte) (rest : List (List Byte)) (c : Taken) (s : State), s.takeDue c frame rest →
    takeKindOf frame = some .writeProfile → writeEntryArguments .profile frame = some (i, bytes) → s.managed c →
    (24 ≤ i → exec .writeEntryProfile s = .next (s.answered c rest .badIndex [])) ∧
    ∀ h : i < 24,
      let n : Slot := ⟨i, h⟩
      let locked : Bool := !((s.slot n).state == .off || (s.slot n).state == .faulted) || !(s.queue n).isEmpty
      (readProfile bytes = none → exec .writeEntryProfile s = .next (s.answered c rest .badValue [])) ∧
      ∀ p, readProfile bytes = some p →
        (p.power ≠ (s.profile n).power → locked = true →
          exec .writeEntryProfile s = .next (s.answered c rest .inUse [])) ∧
        (p.power = (s.profile n).power ∨ locked = false →
          ∃ t, exec .writeEntryProfile s = .next t ∧ t.profiles = s.profiles.set i p ∧
            t.immediate = (s.answered c rest .ok []).immediate ∧ t.responses = s.responses ++ [.immediate c.entry] ∧
            t.ingress = rest ∧
            t.evaluationDue = (s.evaluationDue || (decide (p.power ≠ (s.profile n).power) && s.listed n && !s.sheds)) ∧
            (∀ m, m ≠ n → t.slot m = s.slot m) ∧
            (p.idleHold = (s.profile n).idleHold → t.slot n = s.slot n) ∧
            (p.idleHold ≠ (s.profile n).idleHold → (s.slot n).state = .awake → p.idleHold = 0 →
              t.slot n = { s.slot n with step := none }) ∧
            (p.idleHold ≠ (s.profile n).idleHold → (s.slot n).state = .awake → (s.slot n).pin = false → s.queue n = [] →
              s.inFlight n = false → s.restarting = false → p.idleHold ≠ 0 →
              t.slot n = { s.slot n with step := some { purpose := .idleHold, ms := p.idleHold } }) ∧
            Unchanged [.profiles, .immediate, .responses, .ingress, .evaluationDue, .slots] s t)

/-- WRITE_ENTRY_CHAIN: BAD_INDEX, BAD_VALUE, or all four fields are replaced; a running timeout and an exchange in flight keep
theirs (R114, R147, R149). -/
def Obligations.WriteChainSettingsChecksAndStores : Prop :=
  ∀ (i : Nat) (bytes frame : List Byte) (rest : List (List Byte)) (c : Taken) (s : State), s.takeDue c frame rest →
    takeKindOf frame = some .writeChain → writeEntryArguments .chain frame = some (i, bytes) → s.managed c →
    (i ≠ 0 → exec .writeEntryChain s = .next (s.answered c rest .badIndex [])) ∧
    (i = 0 → readChainSettings bytes = none → exec .writeEntryChain s = .next (s.answered c rest .badValue [])) ∧
    (i = 0 → ∀ v, readChainSettings bytes = some v →
      exec .writeEntryChain s = .next { s.answered c rest .ok [] with chain := v })

/-- WRITE_ENTRY_BUDGET: BAD_INDEX, BAD_VALUE, or all five fields are replaced, and the arbiter answers to the limit in force:
shedding may start, end or stay, or an evaluation becomes due; a running debounce keeps its time (R30, R32, R40, R54, R55, R64 to
R67, R149, R150). That an evaluation that was due is dropped in the event in which shedding becomes active is the model's reading of
R40 and R55, which is log entry 19 (DEDUCED). -/
def Obligations.WriteBudgetSettingsActsAtOnce : Prop :=
  ∀ (i : Nat) (bytes frame : List Byte) (rest : List (List Byte)) (c : Taken) (s : State), s.takeDue c frame rest →
    takeKindOf frame = some .writeBudget → writeEntryArguments .budget frame = some (i, bytes) → s.managed c →
    (i ≠ 0 → exec .writeEntryBudget s = .next (s.answered c rest .badIndex [])) ∧
    (i = 0 → readBudgetSettings bytes = none → exec .writeEntryBudget s = .next (s.answered c rest .badValue [])) ∧
    (i = 0 → ∀ v, readBudgetSettings bytes = some v →
      ∃ t, exec .writeEntryBudget s = .next t ∧ t.budget = v ∧ t.ingress = rest ∧
        t.immediate = (s.answered c rest .ok []).immediate ∧ t.responses = s.responses ++ [.immediate c.entry] ∧
        LimitAnswered .limitWrite s.effectiveLimit (if s.supplyTaken then v.reducedLimit else v.normalLimit) s t ∧
        Unchanged [.budget, .ingress, .immediate, .responses, .shedding, .evaluationDue, .passDue, .notices, .lostCount,
          .firstLoss] s t)

/-- The layout of every entry, and its reading, are inverse to each other: an entry in range is read back from its layout as it
stands, and what is read is in range and laid out again as it came (R133, R134, R137, R140, R141, R149, R187). -/
def Obligations.EntryLayoutsRoundTrip : Prop :=
  (∀ e : UnitEntry, unitInRange e = true → readUnitEntry (layUnitEntry e) = some e) ∧
  (∀ b e, readUnitEntry b = some e → unitInRange e = true ∧ layUnitEntry e = b) ∧
  (∀ e : RequesterEntry, e.limit ≤ 32 → readRequesterEntry (layRequesterEntry e) = some e) ∧
  (∀ b e, readRequesterEntry b = some e → e.limit ≤ 32 ∧ layRequesterEntry e = b) ∧
  (∀ p : Profile, profileInRange p = true → readProfile (layProfile p) = some p) ∧
  (∀ b p, readProfile b = some p → profileInRange p = true ∧ layProfile p = b) ∧
  (∀ v : ChainSettings, chainInRange v = true → readChainSettings (layChainSettings v) = some v) ∧
  (∀ b v, readChainSettings b = some v → chainInRange v = true ∧ layChainSettings v = b) ∧
  (∀ v : BudgetSettings, budgetInRange v = true → readBudgetSettings (layBudgetSettings v) = some v) ∧
  (∀ b v, readBudgetSettings b = some v → budgetInRange v = true ∧ layBudgetSettings v = b)

/-! ## Reports (R151 to R154) -/

/-- FIND_UNIT returns the index of a valid entry with the number, or UNKNOWN_UNIT where there is none, and so always for unit 0
(R135, R151). -/
def Obligations.FindUnitReturnsIndex : Prop :=
  ∀ (u : Nat) (frame : List Byte) (rest : List (List Byte)) (c : Taken) (s : State), s.takeDue c frame rest →
    takeKindOf frame = some .findUnit → unitArgument frame = some u → s.managed c →
    (∀ i : Fin 128, s.unitsDistinct → s.unitMap[i].valid = true → s.unitMap[i].number = u →
      exec .findUnit s = .next (s.answered c rest .ok [BitVec.ofNat 8 i.val])) ∧
    ((∀ i : Fin 128, s.unitMap[i].valid = true → s.unitMap[i].number ≠ u) →
      exec .findUnit s = .next (s.answered c rest .unknownUnit [])) ∧
    (s.unitsDistinct → u = 0 → exec .findUnit s = .next (s.answered c rest .unknownUnit []))

/-- READ_SLOT returns the thirteen bytes of R186 and changes nothing (R147, R152). -/
def Obligations.ReadSlotReportsSlot : Prop :=
  ∀ (b : Byte) (frame : List Byte) (rest : List (List Byte)) (c : Taken) (s : State), s.takeDue c frame rest →
    takeKindOf frame = some .readSlot → oneArgument 0x04 frame = some b → s.managed c →
    (24 ≤ b.toNat → exec .readSlot s = .next (s.answered c rest .badIndex [])) ∧
    (∀ n : Slot, b.toNat = n.val →
      let r := s.slot n
      let listing : List Byte := match s.wakeEntry n with
        | some e => [byteOf (e.join.toNat / 256), byteOf e.join.toNat, if e.level = .urgent then 1 else 0]
        | none => [0x00, 0x00, 0xFF]
      let course : List Byte := match r.drain with
        | some d => [drainCauseCode d.cause, if d.target = .slumber then 0x01 else 0x02]
        | none => [0xFF, 0xFF]
      exec .readSlot s = .next (s.answered c rest .ok
        ([slotStateCode r.state, byteOf r.charge, byteOf r.grantedAwake, byteOf r.grantedStandby, byteOf (s.queue n).length,
          byteOf ((if r.pin then 1 else 0) + (if (s.att n).pending then 2 else 0) + (if s.listed n then 4 else 0)),
          byteOf r.failures] ++ listing ++ course ++
          [match r.switchOff with
            | none => (0x00 : Byte)
            | some .shed => 0x03
            | some .offcmd => 0x05])))

/-- READ_QUEUE returns the count and four bytes for each record in queue order, and changes nothing (R147, R153, R186). -/
def Obligations.ReadQueueListsRecords : Prop :=
  ∀ (b : Byte) (frame : List Byte) (rest : List (List Byte)) (c : Taken) (s : State), s.takeDue c frame rest →
    takeKindOf frame = some .readQueue → oneArgument 0x05 frame = some b → s.managed c →
    (24 ≤ b.toNat → exec .readQueue s = .next (s.answered c rest .badIndex [])) ∧
    (∀ n : Slot, b.toNat = n.val → (∀ r ∈ s.queue n, r.state ≠ .done) →
      exec .readQueue s = .next (s.answered c rest .ok (byteOf (s.queue n).length :: (s.queue n).flatMap (fun r =>
        [match r.owner with
          | .requester q => byteOf q.val
          | .attention => 0x80,
        match r.tag with
          | some t => t
          | none => 0x00,
        if r.state = .queued then 0x01 else 0x02,
        if r.level = .urgent then 0x01 else 0x00]))))

/-- READ_BUDGET returns the limits, the flags, the gate, the two weights and the wake list in arbiter order (level 1 first, each
level in order of creation), with each entry's increment and eligibility, and changes nothing (R29, R38, R39, R52, R154, R186). -/
def Obligations.ReadBudgetListsArbiterOrder : Prop :=
  ∀ (frame : List Byte) (rest : List (List Byte)) (c : Taken) (s : State), s.takeDue c frame rest →
    takeKindOf frame = some .readBudget → noArguments 0x06 frame = some () → s.managed c →
    let item : WakeEntry → List Byte := fun e =>
      let w := (s.profile e.slot).power
      [byteOf e.slot.val, byteOf (e.join.toNat / 256), byteOf e.join.toNat, if e.level = .urgent then 0x01 else 0x00,
        byteOf ((if e.reasons.work then 1 else 0) + (if e.reasons.attention then 2 else 0) + (if e.reasons.managed then 4 else 0) +
          (if e.reasons.pin then 8 else 0)),
        byteOf e.passed, byteOf (if (s.slot e.slot).state = .slumber then w.awake - w.standby else w.awake),
        if w.present = true ∧ (s.budget.gate = .opened ∨ s.budget.gate = .priority ∧ e.level = .urgent) then 0x01 else 0x00]
    exec .readBudget s = .next (s.answered c rest .ok
      ([byteOf (s.budget.normalLimit / 256), byteOf s.budget.normalLimit, byteOf (s.budget.reducedLimit / 256),
        byteOf s.budget.reducedLimit, byteOf ((if s.supplyTaken then 1 else 0) + (if s.sheds then 2 else 0)),
        gateCode s.budget.gate, byteOf (s.committed / 256), byteOf s.committed, byteOf (s.projected / 256), byteOf s.projected,
        byteOf s.wake.length] ++
        (s.wake.filter (fun e => e.level == .urgent)).flatMap item ++ (s.wake.filter (fun e => e.level == .normal)).flatMap item))

/-! ## Slot commands (R155 to R159) -/

/-- SLOT_WAKE: BAD_INDEX, BAD_VALUE, SLOT_ABSENT, SLOT_FAULTED; a resting slot gains reason MANAGED, and any other is answered OK
and left as it is (R147, R155). -/
def Obligations.SlotWakeGivesManagedReason : Prop :=
  ∀ (b l : Byte) (frame : List Byte) (rest : List (List Byte)) (c : Taken) (s : State), s.takeDue c frame rest →
    takeKindOf frame = some .slotWake → wakeArguments frame = some (b, l) → s.managed c →
    (24 ≤ b.toNat → exec .slotWake s = .next (s.answered c rest .badIndex [])) ∧
    (∀ n : Slot, b.toNat = n.val →
      (1 < l.toNat → exec .slotWake s = .next (s.answered c rest .badValue [])) ∧
      (l.toNat ≤ 1 → (s.profile n).power.present = false → exec .slotWake s = .next (s.answered c rest .slotAbsent [])) ∧
      (l.toNat ≤ 1 → (s.profile n).power.present = true → (s.slot n).state = .faulted →
        exec .slotWake s = .next (s.answered c rest .slotFaulted [])) ∧
      (l.toNat ≤ 1 → (s.profile n).power.present = true → (s.slot n).state = .off ∨ (s.slot n).state = .slumber →
        ∃ t, exec .slotWake s = .next t ∧ ReasonGained n .managed (if l = 1 then .urgent else .normal) s t ∧
          t.immediate = (s.answered c rest .ok []).immediate ∧ t.responses = s.responses ++ [.immediate c.entry] ∧
          t.ingress = rest ∧
          Unchanged [.wake, .joinCounter, .evaluationDue, .immediate, .responses, .ingress] s t) ∧
      (l.toNat ≤ 1 → (s.profile n).power.present = true → (s.slot n).state ≠ .off → (s.slot n).state ≠ .slumber →
        (s.slot n).state ≠ .faulted → exec .slotWake s = .next (s.answered c rest .ok [])))

/-- SLOT_REST: an AWAKE slot without records starts a REST drain towards SLUMBER; with records it is refused IN_USE; any other slot
is left as it is (R13, R14, R147, R156). -/
def Obligations.SlotRestDrainsIdleSlot : Prop :=
  ∀ (b : Byte) (frame : List Byte) (rest : List (List Byte)) (c : Taken) (s : State), s.takeDue c frame rest →
    takeKindOf frame = some .slotRest → oneArgument 0x08 frame = some b → s.managed c → s.claimsSound →
    (24 ≤ b.toNat → exec .slotRest s = .next (s.answered c rest .badIndex [])) ∧
    (∀ n : Slot, b.toNat = n.val →
      ((s.slot n).state ≠ .awake → exec .slotRest s = .next (s.answered c rest .ok [])) ∧
      ((s.slot n).state = .awake → s.queue n ≠ [] → exec .slotRest s = .next (s.answered c rest .inUse [])) ∧
      ((s.slot n).state = .awake → s.queue n = [] → s.inFlight n = false → s.stopped = false →
        ∃ t, exec .slotRest s = .next t ∧ (t.slot n).state = .draining ∧
          (t.slot n).drain = some { cause := .rest, target := .slumber } ∧ (t.slot n).step = none ∧
          (t.slot n).pin = (s.slot n).pin ∧
          t.control = s.control.filter (fun x => x.slot != n) ++ [{ slot := n, command := .slumber }] ∧ OnlySlot n s t ∧
          t.immediate = (s.answered c rest .ok []).immediate ∧ t.responses = s.responses ++ [.immediate c.entry] ∧
          t.ingress = rest ∧
          Unchanged [.slots, .control, .notices, .lostCount, .firstLoss, .passDue, .immediate, .responses, .ingress] s t))

/-- SLOT_OFF: every QUEUED record completes ABORTED in queue order, the entry is removed, and the slot is switched off or retargeted
by its state; the answer stands behind the responses of the records. On a shedding victim a selection pass becomes due, unless the
event itself ends shedding (R19, R20, R63, R91, R157). The premise `dispatchesSound` is an invariant that every step keeps. -/
def Obligations.SlotOffAbandonsAndSwitchesOff : Prop :=
  ∀ (b : Byte) (frame : List Byte) (rest : List (List Byte)) (c : Taken) (s : State), s.takeDue c frame rest →
    takeKindOf frame = some .slotOff → oneArgument 0x09 frame = some b → s.managed c →
    (24 ≤ b.toNat → exec .slotOff s = .next (s.answered c rest .badIndex [])) ∧
    (∀ n : Slot, b.toNat = n.val → s.claims = [] → s.queuesSound → s.dispatchesSound →
      let answers := (s.queue n).filter (fun r => r.state == .queued && r.owner != .attention && r.op != .writePosted)
      ∃ t, exec .slotOff s = .next t ∧
        t.queue n = (s.queue n).filter (fun r => r.state != .queued) ∧
        t.responses = s.responses ++ answers.map (fun r => .record { r with
            state := .done, deadline := none, status := some .aborted,
            readData := if r.op = .read then none else r.readData }) ++ [.immediate c.entry] ∧
        t.immediate = (s.answered c rest .ok []).immediate ∧ t.ingress = rest ∧
        ((s.queue n).all (fun r => r.state == .queued) = true → t.listed n = false) ∧
        (t.slot n).pin = (s.slot n).pin ∧
        (((∃ d, (s.slot n).drain = some d ∧ d.cause = .shed) ∨ (s.slot n).switchOff = some .shed) →
          s.restarting = false → t.sheds = true → t.passDue = true) ∧
        (match (s.slot n).state with
          | .off => t.slot n = s.slot n
          | .faulted => t.slot n = s.slot n
          | .slumber => (t.slot n).state = .off ∧ (t.slot n).sen = false
          | .powering => if s.inFlight n then (t.slot n).state = .powering ∧ (t.slot n).switchOff = some .offcmd
            else (t.slot n).state = .off ∧ (t.slot n).sen = false
          | .waking => if s.inFlight n then (t.slot n).state = .waking ∧ (t.slot n).switchOff = some .offcmd
            else (t.slot n).state = .off ∧ (t.slot n).sen = false
          | .awake => if s.inFlight n then
              (t.slot n).state = .draining ∧ (t.slot n).drain = some { cause := .offcmd, target := .off }
            else (t.slot n).state = .off ∧ (t.slot n).sen = false
          | .draining => if s.inFlight n then
              (t.slot n).state = .draining ∧ (t.slot n).drain = some { cause := .offcmd, target := .off }
            else (t.slot n).state = .off ∧ (t.slot n).sen = false
          | .settling => t.slot n = { s.slot n with drain := some { cause := .offcmd, target := .off } }) ∧ OnlySlot n s t ∧
        Unchanged [.ingress, .immediate, .responses, .queues, .attention, .notices, .lostCount, .firstLoss, .wake, .slots,
          .useOrder, .committed, .evictionSet, .control, .evaluationDue, .passDue, .shedding] s t)

/-- PIN and UNPIN: BAD_INDEX; a flag that stands already changes nothing; otherwise the flag changes and the slot is acted on by its
state (R24, R147, R158). -/
def Obligations.PinFlagActsByState : Prop :=
  ∀ (set : Bool) (b : Byte) (frame : List Byte) (rest : List (List Byte)) (c : Taken) (s : State), s.takeDue c frame rest →
    takeKindOf frame = some (if set then .pin else .unpin) → oneArgument (if set then 0x0A else 0x0B) frame = some b →
    s.managed c → s.claimsSound →
    let run := exec (if set then .pin else .unpin) s
    (24 ≤ b.toNat → run = .next (s.answered c rest .badIndex [])) ∧
    (∀ n : Slot, b.toNat = n.val →
      ((s.slot n).pin = set → run = .next (s.answered c rest .ok [])) ∧
      ((s.slot n).pin ≠ set →
        ∃ t, run = .next t ∧ (t.slot n).pin = set ∧ t.ingress = rest ∧ t.responses = s.responses ++ [.immediate c.entry] ∧
          t.immediate = (s.answered c rest .ok []).immediate ∧ OnlySlot n s t ∧ t.queue n = s.queue n ∧
          Unchanged [.ingress, .immediate, .responses, .slots, .control, .attention, .notices, .lostCount, .firstLoss, .wake,
            .joinCounter, .evaluationDue, .passDue] s t ∧
          (match (s.slot n).state, set with
            | .off, true => ReasonGained n .pin .urgent s t ∧ t.slot n = { s.slot n with pin := true }
            | .slumber, true => ReasonGained n .pin .urgent s t ∧ t.slot n = { s.slot n with pin := true }
            | .off, false => t.slot n = { s.slot n with pin := false } ∧
                ((∀ e, s.wakeEntry n = some e → e.reasons.drop .pin = ReasonSet.none) → t.listed n = false)
            | .slumber, false => t.slot n = { s.slot n with pin := false } ∧
                ((∀ e, s.wakeEntry n = some e → e.reasons.drop .pin = ReasonSet.none) → t.listed n = false)
            | .awake, true => t.slot n = { s.slot n with pin := true, step := none }
            | .awake, false => t.slot n = { s.slot n with
                pin := false
                step := if s.queue n = [] ∧ s.inFlight n = false ∧ (s.profile n).idleHold ≠ 0 ∧ s.restarting = false
                  then some { purpose := .idleHold, ms := (s.profile n).idleHold } else (s.slot n).step }
            | .draining, true => if (s.slot n).idleDraining then
                (t.slot n).state = .awake ∧ (t.slot n).drain = none ∧ (t.slot n).step = none ∧
                  t.control = s.control.filter (fun x => x.slot != n)
              else t.slot n = { s.slot n with pin := true }
            | .draining, false => t.slot n = { s.slot n with pin := false }
            | .powering, v => t.slot n = { s.slot n with pin := v }
            | .waking, v => t.slot n = { s.slot n with pin := v }
            | .settling, v => t.slot n = { s.slot n with pin := v }
            | .faulted, v => t.slot n = { s.slot n with pin := v })))

/-- SLOT_CLEAR returns a FAULTED slot to OFF with its failure count at 0 and its granted weights as they are, and a pinned one gains
reason PIN at level 1 and is listed: with a new entry where it was not listed, as no FAULTED slot is. One that is not pinned gains no
entry, and the entries of other slots stay; on any slot that is not FAULTED it is refused IN_USE (R23, R34, R35, R147, R159). -/
def Obligations.SlotClearReturnsToOff : Prop :=
  ∀ (b : Byte) (frame : List Byte) (rest : List (List Byte)) (c : Taken) (s : State), s.takeDue c frame rest →
    takeKindOf frame = some .slotClear → oneArgument 0x0C frame = some b → s.managed c → s.claimsSound →
    (24 ≤ b.toNat → exec .slotClear s = .next (s.answered c rest .badIndex [])) ∧
    (∀ n : Slot, b.toNat = n.val →
      ((s.slot n).state ≠ .faulted → exec .slotClear s = .next (s.answered c rest .inUse [])) ∧
      ((s.slot n).state = .faulted →
        ∃ t, exec .slotClear s = .next t ∧ (t.slot n).state = .off ∧ (t.slot n).failures = 0 ∧ (t.slot n).pin = (s.slot n).pin ∧
          (t.slot n).grantedAwake = (s.slot n).grantedAwake ∧ (t.slot n).grantedStandby = (s.slot n).grantedStandby ∧
          t.fault = s.fault ∧ t.committed = s.committed ∧
          ((s.slot n).pin = true → (∃ e, t.wakeEntry n = some e ∧ e.reasons.pin = true ∧ e.level = .urgent) ∧
            (s.listed n = false → ReasonGained n .pin .urgent s t)) ∧
          ((s.slot n).pin = false → t.wake = s.wake ∧ t.joinCounter = s.joinCounter) ∧
          (∀ m, m ≠ n → t.wakeEntry m = s.wakeEntry m) ∧ OnlySlot n s t ∧
          t.immediate = (s.answered c rest .ok []).immediate ∧ t.responses = s.responses ++ [.immediate c.entry] ∧
          t.ingress = rest ∧
          Unchanged [.slots, .useOrder, .control, .evictionSet, .wake, .joinCounter, .evaluationDue, .passDue, .notices,
            .lostCount, .firstLoss, .immediate, .responses, .ingress] s t))

/-! ## The fault record (R160, R172 to R174) -/

/-- READ_FAULT returns the record and changes nothing the spec names. For an empty record the four stamp bytes are the free value of
log entry 1: some stamp, and the statement says no more of it; the model's own counter of free values goes up. -/
def Obligations.ReadFaultReportsRecord : Prop :=
  ∀ (frame : List Byte) (rest : List (List Byte)) (c : Taken) (s : State), s.takeDue c frame rest →
    takeKindOf frame = some .readFault → noArguments 0x0D frame = some () → s.managed c →
    (∀ l, s.fault.latched = some l → exec .readFault s = .next (s.answered c rest .ok
      ([0x01, s.fault.serial, byteOf s.fault.overflow, faultKindCode l.kind, byteOf l.slot.val] ++ word32 l.stamp ++
        (match l.requesterTag with
          | some (r, t) => [byteOf r.val, t]
          | none => [0xFF, 0xFF])))) ∧
    (s.fault.latched = none → ∃ stamp : Stamp, exec .readFault s = .next { s.answered c rest .ok
      ([0x00, s.fault.serial, byteOf s.fault.overflow, 0xFF, 0xFF] ++ word32 stamp ++ [0xFF, 0xFF]) with
        freeIndex := s.freeIndex + 1 })

/-- CLEAR_FAULT with the record's serial empties a latched record and keeps the serial, and leaves an empty one as it is; with another
serial it is refused STALE. The next fault latches with the serial one higher. A cold reset empties the record, with serial 0
(R160, R174). -/
def Obligations.ClearFaultGoesBySerial : Prop :=
  (∀ (serial : Byte) (frame : List Byte) (rest : List (List Byte)) (c : Taken) (s : State), s.takeDue c frame rest →
    takeKindOf frame = some .clearFault → oneArgument 0x0E frame = some serial → s.managed c →
    (serial ≠ s.fault.serial → exec .clearFault s = .next (s.answered c rest .stale [])) ∧
    (serial = s.fault.serial → s.fault.latched = none → exec .clearFault s = .next (s.answered c rest .ok [])) ∧
    (serial = s.fault.serial → s.fault.latched ≠ none → exec .clearFault s = .next { s.answered c rest .ok [] with
      fault := { latched := none, serial := serial, overflow := 0 } })) ∧
  (∀ (f : FaultRecord) (l : LatchedFault), f.latched = none →
    f.take l = { latched := some l, serial := f.serial + 1, overflow := 0 }) ∧
  (∀ (cause : ResetCause) (s : State), ∃ t, exec (.coldReset cause) s = .next t ∧
    t.fault = { latched := none, serial := 0, overflow := 0 })

/-! ## Warm restart (R161 to R164) -/

/-- RESTART stops the hub and holds its own answer: takes off, the chain stopped, every countdown of a slot and every holdoff stopped,
the control-exchange queue empty, the entry RESERVED (R26, R115, R161, R183). That the lifetime countdowns go for good is log entry
23. -/
def Obligations.RestartStopsTheHub : Prop :=
  ∀ (frame : List Byte) (rest : List (List Byte)) (c : Taken) (s : State), s.takeDue c frame rest →
    takeKindOf frame = some .restart → noArguments 0x0F frame = some () → s.managed c →
    ∃ t, exec .restart s = .next t ∧ t.restart = .waiting c.entry c.requester c.tag ∧ t.taking = false ∧ t.stopped = true ∧
      t.control = [] ∧ t.immediate = s.immediate.set c.entry .reserved ∧ t.ingress = rest ∧
      (∀ n, t.slot n = { s.slot n with step := none, limit := none } ∧ t.att n = { s.att n with holdoff := none } ∧
        t.queue n = (s.queue n).map (fun r => { r with deadline := none })) ∧
      Unchanged [.restart, .immediate, .taking, .stopped, .control, .slots, .queues, .attention, .ingress] s t

/-- RESTART_COMPLETION, once no exchange is in flight: every slot is in OFF or FAULTED, without records, unlisted; the budget and the
attention state are clear; the restart is answered OK behind every other response; what R164 names is kept (R26, R51, R92, R129, R163,
R164). -/
def Obligations.RestartCompletionClearsTheHub : Prop :=
  ∀ (entry : Fin 16) (r : Requester) (tag : Byte) (s : State), s.running = true → s.restart = .waiting entry r tag →
    s.exchange = none →
    ∃ t, exec .restartCompletion s = .next t ∧ t.restart = .noRestart ∧ t.stopped = false ∧ t.taking = true ∧
      (∀ n, (t.slot n).state = (if (s.slot n).state = .faulted then .faulted else .off) ∧ (t.slot n).failures = 0 ∧
        (t.slot n).pin = (if (s.slot n).state = .faulted then (s.slot n).pin else false) ∧ t.queue n = [] ∧
        t.att n = { sensing := false, lastLevel := none, senseRead := none, pending := false, repeatCount := 0, phase := .idle,
                    holdoff := none }) ∧
      t.useOrder = [] ∧ t.wake = [] ∧ t.evictionSet = [] ∧ t.joinCounter = 0 ∧ t.committed = 0 ∧ t.claims = [] ∧
      t.shedding = { active := none, victims := 0 } ∧
      t.responses = s.responses ++ (allSlots.flatMap (fun n => (s.queue n).filter (fun x => x.owner != .attention &&
          x.op != .writePosted))).map (fun x => .record { x with
            state := .done, deadline := none, status := some .aborted,
            readData := if x.op = .read then none else x.readData }) ++ [.immediate entry] ∧
      t.immediate = s.immediate.set entry (.ready { requester := r, tag := tag, status := .ok, contents := [] }) ∧
      (s.noticesInTransmission ≤ s.notices.length →
        ((t.notices.drop s.noticesInTransmission).head?).map (fun n => (n.kind, n.cause)) =
          some (.ready, some (.ready .restart))) ∧
      Unchanged [.restart, .stopped, .taking, .slots, .queues, .attention, .useOrder, .wake, .evictionSet, .joinCounter, .committed,
        .claims, .shedding, .responses, .immediate, .notices, .lostCount, .firstLoss, .evaluationDue, .passDue, .control] s t

/-! ## Budget arbitration (R40 to R49) -/

/-- EVALUATION grants the head of arbiter order, the first eligible entry by level and then by join number, if it fits: committed
weight rises by the increment, the entry goes, an OFF slot enters POWERING and a SLUMBER slot WAKING, with their weights, countdowns
and exchanges. Then the evaluation begins again on the state `g` that this grant leaves; without a further eligible entry it ends
there. While an eviction is in progress, a head that does not fit is left waiting, and with it every entry behind it (R5, R9, R41,
R42, R43). -/
def Obligations.EvaluationGrantsTheHead : Prop :=
  ∀ (e : WakeEntry) (behind : List WakeEntry) (s : State), s.running = true → s.evaluationDue = true → s.sheds = false →
    s.restarting = false → s.stopped = false → s.claimsSound → s.grantsSound →
    (s.wake.filter (fun x => x.level == .urgent) ++ s.wake.filter (fun x => x.level == .normal)).filter s.eligible = e :: behind →
    let n := e.slot
    let w := (s.profile n).power
    let inc := if (s.slot n).state = .slumber then w.awake - w.standby else w.awake
    let base : SlotRecord :=
      { s.slot n with grantedAwake := w.awake, grantedStandby := w.standby, drain := none, switchOff := none, timedOut := none,
                      sen := true }
    let g := s.grant n
    ((s.slot n).state.resting = true → s.committed + inc ≤ s.effectiveLimit →
      g.committed = s.committed + inc ∧ g.wake = s.wake.filter (fun x => x.slot != n) ∧
        ((s.slot n).state = .off →
          g.slot n = { base with
            state := .powering, limit := some w.powerUpTimeout,
            step := if w.powerUpDelay = 0 then none else some { purpose := .powerUpDelay, ms := w.powerUpDelay } } ∧
          g.control = s.control.filter (fun x => x.slot != n) ++
            (if w.powerUpDelay = 0 then [{ slot := n, command := .identify }] else [])) ∧
        ((s.slot n).state = .slumber →
          g.slot n = { base with state := .waking, limit := some w.wakeTimeout, step := none } ∧
          g.control = s.control.filter (fun x => x.slot != n) ++ [{ slot := n, command := .wake }]) ∧
        OnlySlot n s g ∧ Unchanged [.slots, .committed, .wake, .control, .notices, .lostCount, .firstLoss] s g ∧
        (∃ t, exec .evaluation s = .next t ∧ exec .evaluation g = .next t) ∧
        (behind = [] → exec .evaluation s = .next { g with evaluationDue := false })) ∧
    (s.effectiveLimit < s.committed + inc → s.evictionSet ≠ [] → exec .evaluation s = .next { s with evaluationDue := false })

/-- EVALUATION with a head that does not fit and no eviction in progress: the shortest prefix of the eviction candidates, in use
order, that makes room is evicted, all in the one event. A candidate whose rest is SLUMBER drains and joins the eviction set; an
AWAKE one whose rest is OFF goes to OFF in the event, its charge released, and a further evaluation is due. Where all candidates
together do not make room and the bypass is closed, the head is left waiting (R14, R40, R41, R44, R45, R46, R48, R49). -/
def Obligations.EvictionTakesShortestPrefix : Prop :=
  ∀ (head : WakeEntry) (s : State), s.running = true → s.evaluationDue = true → s.sheds = false → s.restarting = false →
    s.claimsSound → s.useOrder.Nodup → s.evictionSet = [] →
    (s.wake.filter (fun e => e.level == .urgent) ++ s.wake.filter (fun e => e.level == .normal)).find? s.eligible = some head →
    let w := (s.profile head.slot).power
    let inc := if (s.slot head.slot).state = .slumber then w.awake - w.standby else w.awake
    let walk := s.useOrder.filter s.candidate
    let given : Slot → Nat := fun n =>
      let target := match (s.slot n).drain with
        | some d => d.target
        | none => (s.profile n).power.restMode
      if target = .slumber then (s.slot n).grantedAwake - (s.slot n).grantedStandby else (s.slot n).grantedAwake
    let room : List Slot → Prop := fun ns => s.projected + inc ≤ s.effectiveLimit + (ns.map given).sum
    let toOff : Slot → Bool := fun n => (s.slot n).state == .awake && (s.profile n).power.restMode == .off
    s.effectiveLimit < s.committed + inc →
    (∀ ns rest, walk = ns ++ rest → room ns → (∀ k, k < ns.length → ¬ room (ns.take k)) →
      (∀ n ∈ ns, (s.slot n).state = .awake ∧ (s.slot n).drain = none ∨
        (s.slot n).state = .draining ∧ (s.slot n).drain = some { cause := .idle, target := .slumber }) →
      ∃ t, exec .evaluation s = .next t ∧ t.evictionSet = ns.filter (fun n => !toOff n) ∧
        (∀ n ∈ ns, toOff n = false →
          (t.slot n).state = .draining ∧ (t.slot n).drain = some { cause := .evict, target := .slumber }) ∧
        (∀ n ∈ ns, toOff n = true →
          t.slot n = { s.slot n with
            state := .off, drain := none, switchOff := none, timedOut := none, step := none, limit := none, sen := false } ∧
          (t.att n).sensing = false ∧ (t.att n).lastLevel = none ∧ (t.att n).senseRead = none ∧
          ((s.slot n).grantedAwake ≠ 0 → t.evaluationDue = true)) ∧
        t.committed = s.committed - ((ns.filter toOff).map (fun n => (s.slot n).grantedAwake)).sum ∧
        t.useOrder = s.useOrder.filter (fun n => !(ns.contains n && toOff n)) ∧
        (∀ n, n ∉ ns → t.slot n = s.slot n) ∧ (∀ n, n ∉ ns ∨ toOff n = false → t.att n = s.att n) ∧
        (ns.any toOff = false → t.evaluationDue = false ∧
          Unchanged [.evaluationDue, .evictionSet, .slots, .control, .notices, .lostCount, .firstLoss] s t) ∧
        Unchanged [.evaluationDue, .evictionSet, .slots, .useOrder, .committed, .attention, .claims, .wake, .control, .notices,
          .lostCount, .firstLoss] s t) ∧
    (¬ room walk → s.budget.bypassAllowance ≤ head.passed → exec .evaluation s = .next { s with evaluationDue := false })

/-- The bypass: while the passed count of a head for which nothing makes room is below the allowance, the entry behind it that fits
is granted, and the head is counted passed; one that does not fit is not, and the count stays. Here for two eligible entries
(R42, R48). -/
def Obligations.BypassGrantPassesTheHead : Prop :=
  ∀ (head e : WakeEntry) (s : State), s.running = true → s.evaluationDue = true → s.sheds = false → s.restarting = false →
    s.claimsSound → s.grantsSound → s.evictionSet = [] → s.wake.Pairwise (fun x y => x.slot ≠ y.slot) →
    (s.wake.filter (fun x => x.level == .urgent) ++ s.wake.filter (fun x => x.level == .normal)).filter s.eligible = [head, e] →
    (s.slot e.slot).state.resting = true → s.effectiveLimit < s.committed + s.increment head.slot →
    s.effectiveLimit + ((s.useOrder.filter s.candidate).map s.candidateRelease).sum < s.projected + s.increment head.slot →
    head.passed < s.budget.bypassAllowance →
    (s.committed + s.increment e.slot ≤ s.effectiveLimit →
      ∃ t, exec .evaluation s = .next t ∧ t.committed = s.committed + s.increment e.slot ∧ t.listed e.slot = false ∧
        (t.slot e.slot).state = (if (s.slot e.slot).state = .off then .powering else .waking) ∧
        t.wakeEntry head.slot = some { head with passed := min 7 (head.passed + 1) } ∧ OnlySlot e.slot s t ∧
        Unchanged [.evaluationDue, .slots, .committed, .wake, .control, .notices, .lostCount, .firstLoss] s t) ∧
    (s.effectiveLimit < s.committed + s.increment e.slot → exec .evaluation s = .next { s with evaluationDue := false })

/-- Committed weight rises in an evaluation only, and then never above the effective limit (R27, R42). -/
def Obligations.CommittedRisesOnlyWithinTheLimit : Prop :=
  ∀ (c : Instr) (s t : State), exec c s = .next t → s.committed < t.committed →
    c = .evaluation ∧ t.committed ≤ s.effectiveLimit

/-! ## Load shedding (R56 to R62) -/

/-- SELECTION_PASS: with projected weight within the limit, or no victim, it selects nothing. Otherwise the first slot in victim order
is acted on by its state and counted, which gives the state `g`: an idle drain becomes a SHED drain; an AWAKE slot drains towards its
rest mode, at once to OFF where that is OFF and no exchange is in flight; a slot that comes up is marked while its exchange is in
flight, and else switched off at once, as a SLUMBER slot is. A release that brings committed weight within the limit ends shedding
and the pass with it. Otherwise the pass goes on to further victims as a pass taken on `g` does; that it leaves another pass due
where the selections changed a pending release or a state is log entry 25 (R14, R15, R19, R56, R57, R58, R59, R60,
R61, R62, R65, R66). -/
def Obligations.SelectionPassTakesFirstVictim : Prop :=
  ∀ s : State, s.running = true → s.passDue = true → s.sheds = true → s.restarting = false → s.claimsSound →
    let inUse := fun (pinned : Bool) (p : Slot → Bool) => s.useOrder.filter (fun n => (s.slot n).pin == pinned && p n)
    let numbered := fun (pinned : Bool) (p : Slot → Bool) => allSlots.filter (fun n => (s.slot n).pin == pinned && p n)
    let stages := fun (pinned : Bool) =>
      inUse pinned (fun n => s.idleSlot n && (s.slot n).idleDraining) ++
      inUse pinned (fun n => s.idleSlot n && (s.slot n).state == .awake) ++
      inUse pinned (fun n => !s.idleSlot n && (s.slot n).state == .awake) ++
      numbered pinned (fun n => (s.slot n).state.comingUp && (s.slot n).switchOff.isNone) ++
      numbered pinned (fun n => (s.slot n).state == .slumber)
    let victims := stages false ++ stages true
    (s.projected ≤ s.effectiveLimit ∨ victims = [] → exec .selectionPass s = .next { s with passDue := false }) ∧
    (∀ n others, s.effectiveLimit < s.projected → victims = n :: others →
      let r := s.slot n
      let rest := (s.profile n).power.restMode
      let g : State := { s.shedSlot n with shedding := { s.shedding with victims := min 255 (s.shedding.victims + 1) } }
      g.passDue = true ∧ OnlySlot n s g ∧
      (∀ target, r.state = .draining → r.drain = some { cause := .idle, target := target } →
        g.slot n = { r with drain := some { cause := .shed, target := target } } ∧ Unchanged [.slots, .shedding] s g) ∧
      (r.state = .awake → s.inFlight n = true ∨ rest = .slumber →
        g.slot n = { r with
          state := .draining, drain := some { cause := .shed, target := rest }, switchOff := none, timedOut := none,
          step := none, limit := none, sen := true } ∧
        g.control = s.control.filter (fun x => x.slot != n) ++
          (if s.inFlight n = true ∨ s.stopped = true then [] else [{ slot := n, command := .slumber }]) ∧
        Unchanged [.slots, .shedding, .control, .notices, .lostCount, .firstLoss] s g) ∧
      (r.state = .awake → s.inFlight n = false → rest = .off →
        OffEntered n r.failures s g ∧ (r.pin = true → g.listed n = true)) ∧
      (r.state.comingUp = true → s.inFlight n = true →
        g.slot n = { r with step := none, limit := none, timedOut := none, switchOff := some .shed } ∧
          Unchanged [.slots, .shedding] s g) ∧
      (r.state.comingUp = true → s.inFlight n = false →
        OffEntered n r.failures s g ∧ (r.pin = true → g.listed n = true)) ∧
      (r.state = .slumber → OffEntered n r.failures s g ∧ (r.pin = true → g.listed n = true)) ∧
      (g.committed ≤ g.effectiveLimit →
        ∃ t, exec .selectionPass s = .next t ∧ t.shedding = { g.shedding with active := none } ∧ t.evaluationDue = true ∧
          t.passDue = false ∧
          NoticeRaised { kind := .shedEnd, stamp := s.timeBase, slot := none, requesterTag := none, unit := none,
                         cause := some (.shedEnd .release), count := g.shedding.victims,
                         data := word16 g.effectiveLimit ++ word16 g.committed } g t ∧
          Unchanged [.shedding, .evaluationDue, .passDue, .notices, .lostCount, .firstLoss] g t) ∧
      (g.effectiveLimit < g.committed →
        ∃ t, exec .selectionPass s = .next t ∧ ∃ u, exec .selectionPass g = .next u ∧ Unchanged [.passDue] u t))

/-! ## The countdowns of a slot (R6, R8, R12) -/

/-- STEP_COUNTDOWN_EXPIRY asks for an IDENTIFY exchange. LIMIT_COUNTDOWN_EXPIRY marks the slot timed out while its exchange is in
flight, and else takes it to FAULTED (R6, R8, R22). -/
def Obligations.ComingUpCountdownsExpire : Prop :=
  ∀ (n : Slot) (s : State), s.running = true → (s.slot n).state.comingUp = true → s.queuesSound →
    (∀ c, (s.slot n).step = some c → c.purpose ≠ .idleHold →
      (c.purpose = .powerUpDelay → ∀ ms, (s.slot n).limit = some ms → c.ms < ms) → s.stopped = false → s.claimsSound →
      exec (.stepCountdownExpiry n) s = .next { s with
        slots := s.slots.set n { s.slot n with step := none }
        control := s.control ++ [{ slot := n, command := .identify }] }) ∧
    (∀ ms, (s.slot n).limit = some ms →
      (s.inFlight n = true → s.claimsSound → exec (.limitCountdownExpiry n) s = .next { s with
        slots := s.slots.set n { s.slot n with
          limit := none, step := none, timedOut := if (s.slot n).state = .waking then some .wake else some .powerUp } }) ∧
      (s.inFlight n = false → s.claims = [] →
        ∃ t, exec (.limitCountdownExpiry n) s = .next t ∧ t.exchange = s.exchange ∧
          FaultEntered n (if (s.slot n).state = .waking then .wakeTimeout else .powerUpTimeout) none (s.slot n).failures s t))

/-- IDLE_HOLD_EXPIRY starts an IDLE drain towards the profile's rest mode: a SLUMBER exchange is asked for, or the slot is switched
off in the event. An IDLE drain with target SLUMBER on an eviction candidate makes an evaluation due unless shedding is active (R12,
R13, R14, R40; R44 as log entry 26 reads it). -/
def Obligations.IdleHoldStartsIdleDrain : Prop :=
  ∀ (n : Slot) (ms : Nat) (s : State), s.running = true → (s.slot n).state = .awake →
    (s.slot n).step = some { purpose := .idleHold, ms := ms } → s.inFlight n = false → s.claimsSound →
    ((s.profile n).power.restMode = .slumber → s.stopped = false →
      ∃ t, exec (.idleHoldExpiry n) s = .next t ∧
        t.slot n = { s.slot n with
          state := .draining, drain := some { cause := .idle, target := .slumber }, switchOff := none, timedOut := none,
          step := none, limit := none, sen := true } ∧
        t.control = s.control.filter (fun x => x.slot != n) ++ [{ slot := n, command := .slumber }] ∧ OnlySlot n s t ∧
        (s.candidate n = true → t.evaluationDue = (s.evaluationDue || !s.sheds)) ∧
        Unchanged [.slots, .control, .notices, .lostCount, .firstLoss, .passDue, .evaluationDue] s t) ∧
    ((s.profile n).power.restMode = .off →
      ∃ t, exec (.idleHoldExpiry n) s = .next t ∧ OffEntered n (s.slot n).failures s t ∧
        Unchanged [.slots, .useOrder, .committed, .control, .evictionSet, .attention, .claims, .wake, .joinCounter, .notices,
          .lostCount, .firstLoss, .evaluationDue, .passDue, .shedding] s t)

/-! ## Lifetimes (R85) -/

/-- LIFETIME_EXPIRY takes the queued record out of its queue and completes it EXPIRED: a READ or WRITE to the response queue, a
posted write to a WRITE_LOST notice. A queue left empty starts the idle hold of an AWAKE slot, or withdraws reason WORK from a
resting one (R11, R37, R85, R87, R89). -/
def Obligations.LifetimeExpiryCompletesRecord : Prop :=
  ∀ (n : Slot) (r : Requester) (tag : Byte) (ms : Nat) (x : Record) (before after : List Record) (s : State),
    s.running = true → s.tagsDistinct → s.claims = [] → s.queue n = before ++ x :: after → x.owner = .requester r →
    x.tag = some tag → x.state = .queued → x.deadline = some ms → x.slot = n →
    ∃ t, exec (.lifetimeExpiry r tag) s = .next t ∧ t.queue n = before ++ after ∧
      (match x.op with
        | .writePosted => t.responses = s.responses ∧
            NoticeRaised { kind := .writeLost, stamp := s.timeBase, slot := some n, requesterTag := some (r, tag), unit := x.unit,
                           cause := some (.status .expired), count := 0, data := [] } s t
        | .read => t.responses = s.responses ++ [.record { x with
            state := .done, deadline := none, status := some .expired, readData := none }] ∧ t.notices = s.notices
        | .write => t.responses = s.responses ++ [.record { x with
            state := .done, deadline := none, status := some .expired }] ∧ t.notices = s.notices) ∧
      (before ++ after ≠ [] → t.slot n = s.slot n ∧ t.wake = s.wake) ∧
      (before ++ after = [] →
        ((s.slot n).state = .awake → t.slot n = { s.slot n with
          step := if (s.slot n).pin = false ∧ s.inFlight n = false ∧ (s.profile n).idleHold ≠ 0 ∧ s.restarting = false
            then some { purpose := .idleHold, ms := (s.profile n).idleHold } else (s.slot n).step }) ∧
        ((s.slot n).state.resting = true →
          (∀ e, s.wakeEntry n = some e → e.reasons.drop .work = ReasonSet.none) → t.listed n = false)) ∧
      OnlySlot n s t ∧
      Unchanged [.queues, .responses, .notices, .lostCount, .firstLoss, .slots, .wake, .evaluationDue] s t

/-! ## The module chain (chapter 5) -/

/-- CHAIN_SELECTION on a free chain: the head of the control-exchange queue starts first, a SLUMBER taking its slot to SETTLING. With
that queue empty the offered head of the highest level is dispatched, and among equals the one whose slot comes first counting up
from the slot after the pointer, which then stands at it; with nothing offered nothing starts. Only a selection and a cold reset
move the pointer (R83, R95, R107 to R110). -/
def Obligations.ChainSelectionStartsExchange : Prop :=
  (∀ s : State, s.running = true → s.exchange = none → s.stopped = false → s.claimsSound →
    (∀ c rest, s.control = c :: rest →
      let started : Exchange :=
        { slot := c.slot, command := c.command, attempt := 0, phase := .sending, frame := commandFrame c.slot c.command 0 0 [] }
      (c.command ≠ .slumber → exec .chainSelection s = .next { s with control := rest, exchange := some started }) ∧
      (c.command = .slumber → (s.slot c.slot).state = .draining →
        ∃ t, exec .chainSelection s = .next t ∧ t.exchange = some started ∧
          t.slot c.slot = { s.slot c.slot with
            state := .settling, switchOff := none, timedOut := none, step := none, limit := none, sen := true } ∧
          t.useOrder = s.useOrder.filter (· != c.slot) ∧ t.control = rest.filter (fun x => x.slot != c.slot) ∧
          OnlySlot c.slot s t ∧
          Unchanged [.control, .exchange, .slots, .useOrder, .notices, .lostCount, .firstLoss, .passDue] s t)) ∧
    (∀ n r rest, s.control = [] → (s.slot n).state = .awake → s.queue n = r :: rest → r.state = .queued →
      (∀ m x tail, (s.slot m).state = .awake → s.queue m = x :: tail → x.state = .queued → (x.level = .urgent → r.level = .urgent) ∧
        (x.level = r.level → (n.val + 23 - s.roundRobin.val) % 24 ≤ (m.val + 23 - s.roundRobin.val) % 24)) →
      let command : ChainCommand := if r.op = .read then .read else .write
      exec .chainSelection s = .next { s with
        queues := s.queues.set n ({ r with state := .dispatched, attempt := 0, deadline := none } :: rest)
        slots := s.slots.set n { s.slot n with step := none }
        exchange := some
          { slot := n, command := command, attempt := 0, phase := .sending,
            frame := commandFrame n command r.address r.length (if r.op = .read then [] else r.writeData.getD []) }
        roundRobin := n }) ∧
    (s.control = [] → (∀ m x tail, (s.slot m).state = .awake → s.queue m = x :: tail → x.state ≠ .queued) →
      exec .chainSelection s = .next s)) ∧
  ∀ (c : Instr) (s t : State), exec c s = .next t → c ≠ .chainSelection → (∀ k, c ≠ .coldReset k) → t.roundRobin = s.roundRobin

/-- COMMAND_SENT, REPLY_START and REPLY_BYTE_RECEIVED move the attempt through its phases, and load or stop the response timeout
with the value in force (R97). -/
def Obligations.AttemptPassesThroughPhases : Prop :=
  ∀ (e : Exchange) (s : State), s.running = true → s.exchange = some e →
    (e.phase = .sending → exec .commandSent s = .next { s with
      exchange := some { e with phase := .awaiting }, responseTimeout := some s.chain.responseTimeout }) ∧
    (e.phase = .awaiting → exec .replyStart s = .next { s with
      exchange := some { e with phase := .receiving }, responseTimeout := none }) ∧
    (e.phase = .receiving → exec .replyByteReceived s = .next { s with responseTimeout := some s.chain.responseTimeout })

/-- The judgement of a reply: with a good check, the slot's echo, at most 32 data bytes and the length that the status calls for, its
outcome is its status; every other sequence of bytes is a CHECK_ERROR (R98, R189). -/
def Obligations.ReplyIsJudged : Prop :=
  ∀ (n : Slot) (command : ChainCommand) (asked : Nat),
    (∀ (status : Byte) (data : List Byte), data.length ≤ 32 →
      let fields := BitVec.ofNat 8 n.val :: status :: BitVec.ofNat 8 data.length :: data
      judgeReply n command asked (fields ++ [crc8 fields]) =
        if status = 0x00 ∧ data.length = (match command with
          | .read => asked
          | .identify => 3
          | .write => 0
          | .wake => 0
          | .slumber => 0) then .done data
        else if status = 0x01 ∧ data = [] then .refused
        else if status = 0x02 ∧ data = [] then .notReady
        else if status = 0x03 ∧ data = [] then .failed
        else .checkError) ∧
    ∀ bytes : List Byte,
      (∀ (status : Byte) (data : List Byte), data.length ≤ 32 →
        let fields := BitVec.ofNat 8 n.val :: status :: BitVec.ofNat 8 data.length :: data
        bytes ≠ fields ++ [crc8 fields]) → judgeReply n command asked bytes = .checkError

/-- A retry: the end of a READ, WRITE or SLUMBER attempt in TIMEOUT, CHECK_ERROR or NOT_READY, below the fault threshold and the retry
limit, counts the failure and sends the same frame again, and the record counts with the exchange (R99, R100, R101). -/
def Obligations.FailedAttemptIsRetried : Prop :=
  ∀ (c : Instr) (e : Exchange) (o : AttemptOutcome) (s : State), AttemptEnds c e o s → s.claimsSound →
    s.belowThreshold e.slot o → o = .timeout ∨ o = .checkError ∨ o = .notReady → e.attempt < s.chain.retryLimit →
    let n := e.slot
    let again : State := { s with
      slots := s.slots.set n { s.slot n with failures := countAfter o (s.slot n).failures }
      exchange := some { e with attempt := e.attempt + 1, phase := .sending }
      responseTimeout := none }
    (e.command = .slumber → exec c s = .next again) ∧
    (∀ r rest, e.command = .read ∨ e.command = .write → s.queue n = r :: rest → r.state = .dispatched →
      exec c s = .next { again with queues := s.queues.set n ({ r with attempt := r.attempt + 1 } :: rest) })

/-- The fault threshold: a failed attempt of a READ, WRITE, SLUMBER or WAKE that brings the count to the threshold ends the exchange,
and takes the slot to FAULTED, noting the requester and tag of the record in flight (R22, R90, R101, R102, R173). -/
def Obligations.ThresholdFaultsSlot : Prop :=
  ∀ (c : Instr) (e : Exchange) (o : AttemptOutcome) (s : State), AttemptEnds c e o s → s.claims = [] →
    s.queuesSound → o = .timeout ∨ o = .checkError → e.command ≠ .identify →
    s.chain.faultThreshold ≤ countAfter o (s.slot e.slot).failures →
    ∃ t, exec c s = .next t ∧ t.exchange = none ∧ t.responseTimeout = none ∧
      FaultEntered e.slot .faultThreshold
        (match s.queue e.slot with
          | [] => none
          | r :: _ => match r.state, r.owner, r.tag with
            | .dispatched, .requester q, some tag => some (q, tag)
            | _, _, _ => none)
        (countAfter o (s.slot e.slot).failures) s t

/-- The end of a data exchange: the record completes with the outcome's status and leaves the queue. A READ or WRITE joins the
response queue with what it read, a lost posted write is reported, a fetch ends its attention action; an AWAKE slot becomes the most
recently used and may start its idle hold, a DRAINING one moves towards rest (R11, R14, R18, R86, R87, R89, R126). That the action
ends by the sense mode last read before its notice is log entry 10. -/
def Obligations.DataExchangeCompletesRecord : Prop :=
  ∀ (c : Instr) (e : Exchange) (o : AttemptOutcome) (r : Record) (rest : List Record) (s : State), AttemptEnds c e o s →
    s.claims = [] → s.belowThreshold e.slot o → s.attemptsOver e o → e.command = (if r.op = .read then .read else .write) →
    s.queue e.slot = r :: rest → r.slot = e.slot →
    let n := e.slot
    let st := statusOf o
    let data : List Byte := match o, r.op with
      | .done d, .read => d
      | _, _ => []
    ∃ t, exec c s = .next t ∧ t.exchange = none ∧ t.responseTimeout = none ∧ t.queue n = rest ∧
      (t.slot n).pin = (s.slot n).pin ∧ (t.slot n).failures = countAfter o (s.slot n).failures ∧
      (match r.owner, r.op with
        | .requester _, .read => t.responses = s.responses ++ [.record { r with
            state := .done, deadline := none, status := some st, readData := if st = .ok then some data else none }]
        | .requester _, .write => t.responses = s.responses ++ [.record { r with
            state := .done, deadline := none, status := some st }]
        | .requester _, .writePosted => t.responses = s.responses
        | .attention, _ => t.responses = s.responses) ∧
      ((s.slot n).state = .awake →
        t.slot n = { s.slot n with
          failures := countAfter o (s.slot n).failures
          step := if rest = [] ∧ (s.slot n).pin = false ∧ (s.profile n).idleHold ≠ 0 ∧ s.restarting = false
            then some { purpose := .idleHold, ms := (s.profile n).idleHold } else (s.slot n).step } ∧
        (n ∈ s.useOrder → t.useOrder = s.useOrder.filter (· != n) ++ [n]) ∧
        (match r.owner, r.op, r.tag with
          | .requester _, .read, _ => t.notices = s.notices ∧ t.att n = s.att n
          | .requester _, .write, _ => t.notices = s.notices ∧ t.att n = s.att n
          | .requester q, .writePosted, some tag => t.att n = s.att n ∧ (st = .ok → t.notices = s.notices) ∧
              (st ≠ .ok → NoticeRaised { kind := .writeLost, stamp := s.timeBase, slot := some n, requesterTag := some (q, tag),
                                         unit := r.unit, cause := some (.status st), count := 0, data := [] } s t)
          | .requester _, .writePosted, none => t.att n = s.att n
          | .attention, _, _ => s.restarting = false →
              AttentionEnded (s.profile n) (s.att n) (t.att n) ∧
              NoticeRaised { kind := .attention, stamp := s.timeBase, slot := some n, requesterTag := none, unit := none,
                             cause := some (.status st), count := (s.att n).repeatCount, data := data } s t)) ∧
      (∀ cause, (s.slot n).state = .draining → (s.slot n).drain = some { cause := cause, target := .slumber } →
        s.stopped = false → (t.slot n).state = .draining ∧ t.control = s.control ++ [{ slot := n, command := .slumber }]) ∧
      (∀ cause, (s.slot n).state = .draining → (s.slot n).drain = some { cause := cause, target := .off } →
        (t.slot n).state = .off ∧ (t.slot n).sen = false ∧ t.committed = s.committed - (s.slot n).grantedAwake ∧
          n ∉ t.useOrder ∧ (rest ≠ [] → t.listed n = true)) ∧
      OnlySlot n s t ∧ Unchanged slotEventFields s t

/-- The end of an IDENTIFY exchange: a DONE reply with the expected type takes the slot to AWAKE and begins the sensing of its line; a
DONE reply with another type faults the slot, and a marked timeout does so on every outcome but a match. Any other outcome loads the
poll interval; and a pending switch-off goes before all of it (R6, R7, R8, R10, R11, R18, R19, R118). -/
def Obligations.IdentifyDecidesSlot : Prop :=
  ∀ (c : Instr) (e : Exchange) (o : AttemptOutcome) (s : State), AttemptEnds c e o s → e.command = .identify →
    (s.slot e.slot).state.comingUp = true → s.claims = [] → s.queuesSound →
    let n := e.slot
    let r := s.slot n
    let p := s.profile n
    (∀ kind, r.switchOff = some kind →
      ∃ t, exec c s = .next t ∧ t.exchange = none ∧ t.responseTimeout = none ∧ OffEntered n r.failures s t ∧
        (r.pin = true → kind = .shed → t.listed n = true)) ∧
    (∀ y1 y0 revision, r.switchOff = none → o = .done [y1, y0, revision] →
      p.power.moduleType = 0 ∨ p.power.moduleType = y1.toNat * 256 + y0.toNat →
      ∃ t, exec c s = .next t ∧ t.exchange = none ∧ t.responseTimeout = none ∧
        t.slot n = { r with
          state := .awake, drain := none, timedOut := none, limit := none, sen := true,
          step := if t.queue n = [] ∧ r.pin = false ∧ p.idleHold ≠ 0 ∧ s.restarting = false
            then some { purpose := .idleHold, ms := p.idleHold } else none } ∧
        t.useOrder = s.useOrder.filter (· != n) ++ [n] ∧
        (r.state = .powering → (t.att n).sensing = true ∧ (t.att n).lastLevel = some s.atnLines[n] ∧
          (t.att n).senseRead = some p.sense) ∧ OnlySlot n s t ∧
        Unchanged slotEventFields s t) ∧
    (∀ y1 y0 revision, r.switchOff = none → o = .done [y1, y0, revision] → p.power.moduleType ≠ 0 →
      p.power.moduleType ≠ y1.toNat * 256 + y0.toNat →
      ∃ t, exec c s = .next t ∧ t.exchange = none ∧ t.responseTimeout = none ∧
        FaultEntered n (match r.timedOut with
          | none => .typeMismatch
          | some .powerUp => .powerUpTimeout
          | some .wake => .wakeTimeout) none r.failures s t) ∧
    (r.switchOff = none → (∀ d, o ≠ .done d) →
      (∀ k, r.timedOut = some k →
        ∃ t, exec c s = .next t ∧ t.exchange = none ∧ t.responseTimeout = none ∧
          FaultEntered n (if k = .wake then .wakeTimeout else .powerUpTimeout) none r.failures s t) ∧
      (r.timedOut = none → s.restarting = false → s.chain.pollInterval ≠ 0 → exec c s = .next { s with
        exchange := none
        responseTimeout := none
        slots := s.slots.set n { r with step := some { purpose := .pollInterval, ms := s.chain.pollInterval } } }))

/-- The ends of the other two control exchanges. WAKE, whatever its outcome: the wake delay is loaded, or a marked timeout faults
the slot, or a pending switch-off takes it to OFF. SLUMBER: DONE takes the slot to SLUMBER with its charge at standby; any other
final outcome, or a drain towards OFF, takes it to OFF, with fault SLUMBER_FAILED if SLUMBER was the target (R2, R8, R9, R16, R17,
R19, R46). -/
def Obligations.WakeAndSlumberDecideSlot : Prop :=
  ∀ (c : Instr) (e : Exchange) (o : AttemptOutcome) (s : State), AttemptEnds c e o s → s.belowThreshold e.slot o →
    s.claims = [] → s.queuesSound →
    let n := e.slot
    let r := s.slot n
    let failures := countAfter o r.failures
    (e.command = .wake → r.state = .waking →
      (r.switchOff = none → r.timedOut = none → s.restarting = false → (s.profile n).power.wakeDelay ≠ 0 →
        exec c s = .next { s with
          exchange := none
          responseTimeout := none
          slots := s.slots.set n { r with
            failures := failures, step := some { purpose := .wakeDelay, ms := (s.profile n).power.wakeDelay } } }) ∧
      (r.switchOff = none → r.timedOut = some .wake →
        ∃ t, exec c s = .next t ∧ t.exchange = none ∧ t.responseTimeout = none ∧
          FaultEntered n .wakeTimeout none failures s t) ∧
      (∀ kind, r.switchOff = some kind →
        ∃ t, exec c s = .next t ∧ t.exchange = none ∧ t.responseTimeout = none ∧ OffEntered n failures s t)) ∧
    (e.command = .slumber → r.state = .settling → s.attemptsOver e o →
      (∀ cause d, r.drain = some { cause := cause, target := .slumber } → o = .done d →
        ∃ t, exec c s = .next t ∧ t.exchange = none ∧ t.responseTimeout = none ∧
          t.slot n = { r with
            state := .slumber, drain := none, switchOff := none, timedOut := none, step := none, limit := none, sen := true,
            failures := failures } ∧
          t.committed = s.committed - (r.grantedAwake - r.grantedStandby) ∧ t.evictionSet = s.evictionSet.filter (· != n) ∧
          (s.queue n ≠ [] → t.listed n = true) ∧
          (r.pin = true → cause ≠ .rest → cause ≠ .offcmd → t.listed n = true) ∧ OnlySlot n s t ∧
          Unchanged slotEventFields s t) ∧
      (∀ cause, r.drain = some { cause := cause, target := .slumber } → (∀ d, o ≠ .done d) →
        ∃ t, exec c s = .next t ∧ t.exchange = none ∧ t.responseTimeout = none ∧ OffEntered n failures s t ∧
          FaultLatched .slumberFailed n none s t) ∧
      (∀ cause, r.drain = some { cause := cause, target := .off } →
        ∃ t, exec c s = .next t ∧ t.exchange = none ∧ t.responseTimeout = none ∧ OffEntered n failures s t ∧ t.fault = s.fault))

/-! ## The output of the system link (R181, R182) -/

/-- OUTPUT_CHOICE with the transmitter IDLE: the response at the head while fewer than eight have gone before a waiting notice, the
notice at the head otherwise or where no response waits, and the response run as the table has it. A cold reset sets the run to 0 and
a warm restart keeps it (R181). That the command leaves the state as it is where nothing waits is log entries 9 and 2. -/
def Obligations.OutputChoiceFollowsTable : Prop :=
  (∀ s : State, s.running = true → s.transmitter = .idle →
    (s.responses = [] → s.notices = [] → exec .outputChoice s = .next s) ∧
    (∀ n notices, s.notices = n :: notices → s.responses = [] ∨ 8 ≤ s.responseRun →
      exec .outputChoice s = .next { s with transmitter := .notice (noticeFrame n), responseRun := 0 }) ∧
    (∀ r items, s.responses = .record r :: items → s.notices = [] ∨ s.responseRun < 8 →
      exec .outputChoice s = .next { s with
        transmitter := .response (responseFrame (recordResponse r))
        responseRun := if s.notices = [] then 0 else s.responseRun + 1 }) ∧
    (∀ i r items, s.responses = .immediate i :: items → s.immediate[i] = .ready r → s.notices = [] ∨ s.responseRun < 8 →
      exec .outputChoice s = .next { s with
        transmitter := .response (responseFrame (BitVec.ofNat 8 r.requester.val :: r.tag :: statusCode r.status :: r.contents))
        responseRun := if s.notices = [] then 0 else s.responseRun + 1 })) ∧
  (∀ (cause : ResetCause) (s : State), ∃ t, exec (.coldReset cause) s = .next t ∧ t.responseRun = 0) ∧
  ∀ (c : Instr) (s t : State), c = .restart ∨ c = .restartCompletion → exec c s = .next t → t.responseRun = s.responseRun

/-- TRANSMISSION_END of a notice: the entry leaves the queue, and with a lost count that is not 0 NOTICES_LOST takes its place at the
tail and the count returns to 0. A notice raised later on a full queue is dropped, and a new count begins (R170). -/
def Obligations.LostNoticesAreReported : Prop :=
  (∀ (n : Notice) (rest : List Notice) (frame : List Byte) (s : State), s.running = true → s.transmitter = .notice frame →
    s.notices = n :: rest →
    (s.lostCount = 0 → exec .transmissionEnd s = .next { s with transmitter := .idle, notices := rest }) ∧
    (s.lostCount ≠ 0 → exec .transmissionEnd s = .next { s with
      transmitter := .idle
      notices := rest ++ [{ kind := .noticesLost, stamp := s.timeBase, slot := none, requesterTag := none, unit := none,
                            cause := none, count := s.lostCount, data := word32 s.firstLoss }]
      lostCount := 0 })) ∧
  ∀ (n : Notice) (s : State), s.lostCount = 0 → 32 ≤ s.notices.length →
    s.raise n = { s with lostCount := 1, firstLoss := s.timeBase }

/-- TRANSMISSION_END of a response: the item leaves the queue, and its immediate entry or its record is freed; a freed record of a
full pool goes to the oldest fetch claim in the same event (R79, R93, R182). -/
def Obligations.SentResponseFreesItem : Prop :=
  ∀ (frame : List Byte) (item : ResponseItem) (rest : List ResponseItem) (s : State), s.running = true →
    s.transmitter = .response frame → s.responses = item :: rest →
    (∀ i, item = .immediate i → s.claimsSound →
      exec .transmissionEnd s = .next { s with
        transmitter := .idle, responses := rest, immediate := s.immediate.set i .free }) ∧
    (∀ r, item = .record r → s.claims = [] →
      exec .transmissionEnd s = .next { s with transmitter := .idle, responses := rest }) ∧
    (∀ r n claims, item = .record r → s.claims = n :: claims → s.liveTotal = 96 →
      ∃ t, exec .transmissionEnd s = .next t ∧ t.transmitter = .idle ∧ t.responses = rest ∧ t.claims = claims ∧
        (t.att n).phase = .fetching ∧ t.liveTotal = 96 ∧
        t.queue n = s.queue n ++
          [{ owner := .attention, tag := none, unit := none, slot := n, op := .read, address := (s.profile n).fetchOffset,
             length := (s.profile n).fetchLength, writeData := none, readData := none, level := (s.profile n).attentionLevel,
             deadline := none, state := .queued, attempt := 0, status := none }] ∧
        Unchanged (.transmitter :: slotEventFields) s t)

/-! ## Invariants that every step keeps -/

/-- The reset state meets every invariant below. -/
def Obligations.InvariantsHoldAtReset : Prop :=
  State.reset.senFollows ∧ State.reset.noticesSound ∧ State.reset.ingressSound ∧ State.reset.recordsBounded ∧
    State.reset.tagsDistinct ∧ State.reset.queuesSound ∧ State.reset.dispatchesSound ∧ State.reset.claimsSound ∧
    State.reset.responsesSound ∧ State.reset.unitsDistinct ∧ State.reset.weightsSound ∧ State.reset.limitKept

/-- The notice queue and ingress keep to their capacities (R167, R169, R177). -/
def Obligations.StepKeepsQueueCapacities : Prop :=
  ∀ s t : State, step s = .next t → (s.noticesSound → t.noticesSound) ∧ (s.ingressSound → t.ingressSound)

/-- The record pool is not overdrawn, no requester exceeds its limit, tags stay distinct, records stand in the queues of their own
slots, a record is DISPATCHED only at the head of an AWAKE or DRAINING slot's queue with its exchange in flight, and claims wait only
while no record is free (R69, R70, R73, R77, R79, R83, R87). -/
def Obligations.StepKeepsRecordPool : Prop :=
  ∀ s t : State, step s = .next t →
    (s.recordsBounded → t.recordsBounded) ∧ (s.tagsDistinct → t.tagsDistinct) ∧ (s.queuesSound → t.queuesSound) ∧
      (s.dispatchesSound → t.dispatchesSound) ∧ (s.claimsSound → t.claimsSound)

/-- The READY immediate entries and the response queue stay in step, and unit numbers stay distinct (R134, R178, R179, R183). -/
def Obligations.StepKeepsResponsesAndUnits : Prop :=
  ∀ s t : State, step s = .next t → (s.responsesSound → t.responsesSound) ∧ (s.unitsDistinct → t.unitsDistinct)

/-- Committed weight stays the sum of the charges of all slots, it does not exceed the effective limit while shedding is inactive, and
every SEN line keeps following its slot's state (R2, R3, R27, R42). -/
def Obligations.StepKeepsWeightsAndSenLines : Prop :=
  ∀ s t : State, step s = .next t → (s.weightsSound → t.weightsSound) ∧ (s.limitKept → t.limitKept) ∧
    (s.senFollows → t.senFollows)
end

