-- ==== Sys2Proof/Laws/State.lean ====
section
/-! SUPPORT. What each update of a per-slot record leaves in each field and accessor, so that no proof unfolds one. -/

namespace Sys2Proof.Machine

variable (s : State) (n m : Slot)

/-! ## setSlot -/

@[simp] theorem setSlot_hub (x : SlotRecord) : (s.setSlot n x).hub = s.hub := rfl
@[simp] theorem setSlot_supplyLowPin (x : SlotRecord) : (s.setSlot n x).supplyLowPin = s.supplyLowPin := rfl
@[simp] theorem setSlot_atnLines (x : SlotRecord) : (s.setSlot n x).atnLines = s.atnLines := rfl
@[simp] theorem setSlot_slots (x : SlotRecord) : (s.setSlot n x).slots = s.slots.set n x := rfl
@[simp] theorem setSlot_useOrder (x : SlotRecord) : (s.setSlot n x).useOrder = s.useOrder := rfl
@[simp] theorem setSlot_committed (x : SlotRecord) : (s.setSlot n x).committed = s.committed := rfl
@[simp] theorem setSlot_wake (x : SlotRecord) : (s.setSlot n x).wake = s.wake := rfl
@[simp] theorem setSlot_joinCounter (x : SlotRecord) : (s.setSlot n x).joinCounter = s.joinCounter := rfl
@[simp] theorem setSlot_evictionSet (x : SlotRecord) : (s.setSlot n x).evictionSet = s.evictionSet := rfl
@[simp] theorem setSlot_evaluationDue (x : SlotRecord) : (s.setSlot n x).evaluationDue = s.evaluationDue := rfl
@[simp] theorem setSlot_passDue (x : SlotRecord) : (s.setSlot n x).passDue = s.passDue := rfl
@[simp] theorem setSlot_supplyTaken (x : SlotRecord) : (s.setSlot n x).supplyTaken = s.supplyTaken := rfl
@[simp] theorem setSlot_debounce (x : SlotRecord) : (s.setSlot n x).debounce = s.debounce := rfl
@[simp] theorem setSlot_shedding (x : SlotRecord) : (s.setSlot n x).shedding = s.shedding := rfl
@[simp] theorem setSlot_budget (x : SlotRecord) : (s.setSlot n x).budget = s.budget := rfl
@[simp] theorem setSlot_chain (x : SlotRecord) : (s.setSlot n x).chain = s.chain := rfl
@[simp] theorem setSlot_unitMap (x : SlotRecord) : (s.setSlot n x).unitMap = s.unitMap := rfl
@[simp] theorem setSlot_requesters (x : SlotRecord) : (s.setSlot n x).requesters = s.requesters := rfl
@[simp] theorem setSlot_profiles (x : SlotRecord) : (s.setSlot n x).profiles = s.profiles := rfl
@[simp] theorem setSlot_queues (x : SlotRecord) : (s.setSlot n x).queues = s.queues := rfl
@[simp] theorem setSlot_claims (x : SlotRecord) : (s.setSlot n x).claims = s.claims := rfl
@[simp] theorem setSlot_exchange (x : SlotRecord) : (s.setSlot n x).exchange = s.exchange := rfl
@[simp] theorem setSlot_control (x : SlotRecord) : (s.setSlot n x).control = s.control := rfl
@[simp] theorem setSlot_roundRobin (x : SlotRecord) : (s.setSlot n x).roundRobin = s.roundRobin := rfl
@[simp] theorem setSlot_stopped (x : SlotRecord) : (s.setSlot n x).stopped = s.stopped := rfl
@[simp] theorem setSlot_responseTimeout (x : SlotRecord) : (s.setSlot n x).responseTimeout = s.responseTimeout := rfl
@[simp] theorem setSlot_attention (x : SlotRecord) : (s.setSlot n x).attention = s.attention := rfl
@[simp] theorem setSlot_timeBase (x : SlotRecord) : (s.setSlot n x).timeBase = s.timeBase := rfl
@[simp] theorem setSlot_notices (x : SlotRecord) : (s.setSlot n x).notices = s.notices := rfl
@[simp] theorem setSlot_lostCount (x : SlotRecord) : (s.setSlot n x).lostCount = s.lostCount := rfl
@[simp] theorem setSlot_firstLoss (x : SlotRecord) : (s.setSlot n x).firstLoss = s.firstLoss := rfl
@[simp] theorem setSlot_fault (x : SlotRecord) : (s.setSlot n x).fault = s.fault := rfl
@[simp] theorem setSlot_receiver (x : SlotRecord) : (s.setSlot n x).receiver = s.receiver := rfl
@[simp] theorem setSlot_ingress (x : SlotRecord) : (s.setSlot n x).ingress = s.ingress := rfl
@[simp] theorem setSlot_immediate (x : SlotRecord) : (s.setSlot n x).immediate = s.immediate := rfl
@[simp] theorem setSlot_responses (x : SlotRecord) : (s.setSlot n x).responses = s.responses := rfl
@[simp] theorem setSlot_transmitter (x : SlotRecord) : (s.setSlot n x).transmitter = s.transmitter := rfl
@[simp] theorem setSlot_responseRun (x : SlotRecord) : (s.setSlot n x).responseRun = s.responseRun := rfl
@[simp] theorem setSlot_taking (x : SlotRecord) : (s.setSlot n x).taking = s.taking := rfl
@[simp] theorem setSlot_restart (x : SlotRecord) : (s.setSlot n x).restart = s.restart := rfl
@[simp] theorem setSlot_freeIndex (x : SlotRecord) : (s.setSlot n x).freeIndex = s.freeIndex := rfl
@[simp] theorem setSlot_pending (x : SlotRecord) : (s.setSlot n x).pending = s.pending := rfl

@[simp] theorem setSlot_slot_self (x : SlotRecord) : (s.setSlot n x).slot n = x := by simp [State.setSlot, State.slot]

@[simp] theorem setSlot_slot_other (x : SlotRecord) (h : m ≠ n) : (s.setSlot n x).slot m = s.slot m := by
  have h' : n.val ≠ m.val := fun e => h (Fin.ext e.symm)
  simp [State.setSlot, State.slot, h']

@[simp] theorem setSlot_att (x : SlotRecord) : (s.setSlot n x).att m = s.att m := rfl
@[simp] theorem setSlot_queue (x : SlotRecord) : (s.setSlot n x).queue m = s.queue m := rfl
@[simp] theorem setSlot_profile (x : SlotRecord) : (s.setSlot n x).profile m = s.profile m := rfl
@[simp] theorem setSlot_requester (x : SlotRecord) (r : Requester) : (s.setSlot n x).requester r = s.requester r := rfl
@[simp] theorem setSlot_running (x : SlotRecord) : (s.setSlot n x).running = s.running := rfl
@[simp] theorem setSlot_sheds (x : SlotRecord) : (s.setSlot n x).sheds = s.sheds := rfl
@[simp] theorem setSlot_restarting (x : SlotRecord) : (s.setSlot n x).restarting = s.restarting := rfl
@[simp] theorem setSlot_effectiveLimit (x : SlotRecord) : (s.setSlot n x).effectiveLimit = s.effectiveLimit := rfl
@[simp] theorem setSlot_inFlight (x : SlotRecord) : (s.setSlot n x).inFlight m = s.inFlight m := rfl
@[simp] theorem setSlot_listed (x : SlotRecord) : (s.setSlot n x).listed m = s.listed m := rfl
@[simp] theorem setSlot_wakeEntry (x : SlotRecord) : (s.setSlot n x).wakeEntry m = s.wakeEntry m := rfl

/-! ## setAtt -/

@[simp] theorem setAtt_hub (x : AttentionRecord) : (s.setAtt n x).hub = s.hub := rfl
@[simp] theorem setAtt_supplyLowPin (x : AttentionRecord) : (s.setAtt n x).supplyLowPin = s.supplyLowPin := rfl
@[simp] theorem setAtt_atnLines (x : AttentionRecord) : (s.setAtt n x).atnLines = s.atnLines := rfl
@[simp] theorem setAtt_slots (x : AttentionRecord) : (s.setAtt n x).slots = s.slots := rfl
@[simp] theorem setAtt_useOrder (x : AttentionRecord) : (s.setAtt n x).useOrder = s.useOrder := rfl
@[simp] theorem setAtt_committed (x : AttentionRecord) : (s.setAtt n x).committed = s.committed := rfl
@[simp] theorem setAtt_wake (x : AttentionRecord) : (s.setAtt n x).wake = s.wake := rfl
@[simp] theorem setAtt_joinCounter (x : AttentionRecord) : (s.setAtt n x).joinCounter = s.joinCounter := rfl
@[simp] theorem setAtt_evictionSet (x : AttentionRecord) : (s.setAtt n x).evictionSet = s.evictionSet := rfl
@[simp] theorem setAtt_evaluationDue (x : AttentionRecord) : (s.setAtt n x).evaluationDue = s.evaluationDue := rfl
@[simp] theorem setAtt_passDue (x : AttentionRecord) : (s.setAtt n x).passDue = s.passDue := rfl
@[simp] theorem setAtt_supplyTaken (x : AttentionRecord) : (s.setAtt n x).supplyTaken = s.supplyTaken := rfl
@[simp] theorem setAtt_debounce (x : AttentionRecord) : (s.setAtt n x).debounce = s.debounce := rfl
@[simp] theorem setAtt_shedding (x : AttentionRecord) : (s.setAtt n x).shedding = s.shedding := rfl
@[simp] theorem setAtt_budget (x : AttentionRecord) : (s.setAtt n x).budget = s.budget := rfl
@[simp] theorem setAtt_chain (x : AttentionRecord) : (s.setAtt n x).chain = s.chain := rfl
@[simp] theorem setAtt_unitMap (x : AttentionRecord) : (s.setAtt n x).unitMap = s.unitMap := rfl
@[simp] theorem setAtt_requesters (x : AttentionRecord) : (s.setAtt n x).requesters = s.requesters := rfl
@[simp] theorem setAtt_profiles (x : AttentionRecord) : (s.setAtt n x).profiles = s.profiles := rfl
@[simp] theorem setAtt_queues (x : AttentionRecord) : (s.setAtt n x).queues = s.queues := rfl
@[simp] theorem setAtt_claims (x : AttentionRecord) : (s.setAtt n x).claims = s.claims := rfl
@[simp] theorem setAtt_exchange (x : AttentionRecord) : (s.setAtt n x).exchange = s.exchange := rfl
@[simp] theorem setAtt_control (x : AttentionRecord) : (s.setAtt n x).control = s.control := rfl
@[simp] theorem setAtt_roundRobin (x : AttentionRecord) : (s.setAtt n x).roundRobin = s.roundRobin := rfl
@[simp] theorem setAtt_stopped (x : AttentionRecord) : (s.setAtt n x).stopped = s.stopped := rfl
@[simp] theorem setAtt_responseTimeout (x : AttentionRecord) : (s.setAtt n x).responseTimeout = s.responseTimeout := rfl
@[simp] theorem setAtt_attention (x : AttentionRecord) : (s.setAtt n x).attention = s.attention.set n x := rfl
@[simp] theorem setAtt_timeBase (x : AttentionRecord) : (s.setAtt n x).timeBase = s.timeBase := rfl
@[simp] theorem setAtt_notices (x : AttentionRecord) : (s.setAtt n x).notices = s.notices := rfl
@[simp] theorem setAtt_lostCount (x : AttentionRecord) : (s.setAtt n x).lostCount = s.lostCount := rfl
@[simp] theorem setAtt_firstLoss (x : AttentionRecord) : (s.setAtt n x).firstLoss = s.firstLoss := rfl
@[simp] theorem setAtt_fault (x : AttentionRecord) : (s.setAtt n x).fault = s.fault := rfl
@[simp] theorem setAtt_receiver (x : AttentionRecord) : (s.setAtt n x).receiver = s.receiver := rfl
@[simp] theorem setAtt_ingress (x : AttentionRecord) : (s.setAtt n x).ingress = s.ingress := rfl
@[simp] theorem setAtt_immediate (x : AttentionRecord) : (s.setAtt n x).immediate = s.immediate := rfl
@[simp] theorem setAtt_responses (x : AttentionRecord) : (s.setAtt n x).responses = s.responses := rfl
@[simp] theorem setAtt_transmitter (x : AttentionRecord) : (s.setAtt n x).transmitter = s.transmitter := rfl
@[simp] theorem setAtt_responseRun (x : AttentionRecord) : (s.setAtt n x).responseRun = s.responseRun := rfl
@[simp] theorem setAtt_taking (x : AttentionRecord) : (s.setAtt n x).taking = s.taking := rfl
@[simp] theorem setAtt_restart (x : AttentionRecord) : (s.setAtt n x).restart = s.restart := rfl
@[simp] theorem setAtt_freeIndex (x : AttentionRecord) : (s.setAtt n x).freeIndex = s.freeIndex := rfl
@[simp] theorem setAtt_pending (x : AttentionRecord) : (s.setAtt n x).pending = s.pending := rfl

@[simp] theorem setAtt_slot (x : AttentionRecord) : (s.setAtt n x).slot m = s.slot m := rfl
@[simp] theorem setAtt_att_self (x : AttentionRecord) : (s.setAtt n x).att n = x := by simp [State.setAtt, State.att]

@[simp] theorem setAtt_att_other (x : AttentionRecord) (h : m ≠ n) : (s.setAtt n x).att m = s.att m := by
  have h' : n.val ≠ m.val := fun e => h (Fin.ext e.symm)
  simp [State.setAtt, State.att, h']

@[simp] theorem setAtt_queue (x : AttentionRecord) : (s.setAtt n x).queue m = s.queue m := rfl
@[simp] theorem setAtt_profile (x : AttentionRecord) : (s.setAtt n x).profile m = s.profile m := rfl
@[simp] theorem setAtt_requester (x : AttentionRecord) (r : Requester) : (s.setAtt n x).requester r = s.requester r := rfl
@[simp] theorem setAtt_running (x : AttentionRecord) : (s.setAtt n x).running = s.running := rfl
@[simp] theorem setAtt_sheds (x : AttentionRecord) : (s.setAtt n x).sheds = s.sheds := rfl
@[simp] theorem setAtt_restarting (x : AttentionRecord) : (s.setAtt n x).restarting = s.restarting := rfl
@[simp] theorem setAtt_effectiveLimit (x : AttentionRecord) : (s.setAtt n x).effectiveLimit = s.effectiveLimit := rfl
@[simp] theorem setAtt_inFlight (x : AttentionRecord) : (s.setAtt n x).inFlight m = s.inFlight m := rfl
@[simp] theorem setAtt_listed (x : AttentionRecord) : (s.setAtt n x).listed m = s.listed m := rfl
@[simp] theorem setAtt_wakeEntry (x : AttentionRecord) : (s.setAtt n x).wakeEntry m = s.wakeEntry m := rfl

/-! ## setQueue -/

@[simp] theorem setQueue_hub (x : List Record) : (s.setQueue n x).hub = s.hub := rfl
@[simp] theorem setQueue_supplyLowPin (x : List Record) : (s.setQueue n x).supplyLowPin = s.supplyLowPin := rfl
@[simp] theorem setQueue_atnLines (x : List Record) : (s.setQueue n x).atnLines = s.atnLines := rfl
@[simp] theorem setQueue_slots (x : List Record) : (s.setQueue n x).slots = s.slots := rfl
@[simp] theorem setQueue_useOrder (x : List Record) : (s.setQueue n x).useOrder = s.useOrder := rfl
@[simp] theorem setQueue_committed (x : List Record) : (s.setQueue n x).committed = s.committed := rfl
@[simp] theorem setQueue_wake (x : List Record) : (s.setQueue n x).wake = s.wake := rfl
@[simp] theorem setQueue_joinCounter (x : List Record) : (s.setQueue n x).joinCounter = s.joinCounter := rfl
@[simp] theorem setQueue_evictionSet (x : List Record) : (s.setQueue n x).evictionSet = s.evictionSet := rfl
@[simp] theorem setQueue_evaluationDue (x : List Record) : (s.setQueue n x).evaluationDue = s.evaluationDue := rfl
@[simp] theorem setQueue_passDue (x : List Record) : (s.setQueue n x).passDue = s.passDue := rfl
@[simp] theorem setQueue_supplyTaken (x : List Record) : (s.setQueue n x).supplyTaken = s.supplyTaken := rfl
@[simp] theorem setQueue_debounce (x : List Record) : (s.setQueue n x).debounce = s.debounce := rfl
@[simp] theorem setQueue_shedding (x : List Record) : (s.setQueue n x).shedding = s.shedding := rfl
@[simp] theorem setQueue_budget (x : List Record) : (s.setQueue n x).budget = s.budget := rfl
@[simp] theorem setQueue_chain (x : List Record) : (s.setQueue n x).chain = s.chain := rfl
@[simp] theorem setQueue_unitMap (x : List Record) : (s.setQueue n x).unitMap = s.unitMap := rfl
@[simp] theorem setQueue_requesters (x : List Record) : (s.setQueue n x).requesters = s.requesters := rfl
@[simp] theorem setQueue_profiles (x : List Record) : (s.setQueue n x).profiles = s.profiles := rfl
@[simp] theorem setQueue_queues (x : List Record) : (s.setQueue n x).queues = s.queues.set n x := rfl
@[simp] theorem setQueue_claims (x : List Record) : (s.setQueue n x).claims = s.claims := rfl
@[simp] theorem setQueue_exchange (x : List Record) : (s.setQueue n x).exchange = s.exchange := rfl
@[simp] theorem setQueue_control (x : List Record) : (s.setQueue n x).control = s.control := rfl
@[simp] theorem setQueue_roundRobin (x : List Record) : (s.setQueue n x).roundRobin = s.roundRobin := rfl
@[simp] theorem setQueue_stopped (x : List Record) : (s.setQueue n x).stopped = s.stopped := rfl
@[simp] theorem setQueue_responseTimeout (x : List Record) : (s.setQueue n x).responseTimeout = s.responseTimeout := rfl
@[simp] theorem setQueue_attention (x : List Record) : (s.setQueue n x).attention = s.attention := rfl
@[simp] theorem setQueue_timeBase (x : List Record) : (s.setQueue n x).timeBase = s.timeBase := rfl
@[simp] theorem setQueue_notices (x : List Record) : (s.setQueue n x).notices = s.notices := rfl
@[simp] theorem setQueue_lostCount (x : List Record) : (s.setQueue n x).lostCount = s.lostCount := rfl
@[simp] theorem setQueue_firstLoss (x : List Record) : (s.setQueue n x).firstLoss = s.firstLoss := rfl
@[simp] theorem setQueue_fault (x : List Record) : (s.setQueue n x).fault = s.fault := rfl
@[simp] theorem setQueue_receiver (x : List Record) : (s.setQueue n x).receiver = s.receiver := rfl
@[simp] theorem setQueue_ingress (x : List Record) : (s.setQueue n x).ingress = s.ingress := rfl
@[simp] theorem setQueue_immediate (x : List Record) : (s.setQueue n x).immediate = s.immediate := rfl
@[simp] theorem setQueue_responses (x : List Record) : (s.setQueue n x).responses = s.responses := rfl
@[simp] theorem setQueue_transmitter (x : List Record) : (s.setQueue n x).transmitter = s.transmitter := rfl
@[simp] theorem setQueue_responseRun (x : List Record) : (s.setQueue n x).responseRun = s.responseRun := rfl
@[simp] theorem setQueue_taking (x : List Record) : (s.setQueue n x).taking = s.taking := rfl
@[simp] theorem setQueue_restart (x : List Record) : (s.setQueue n x).restart = s.restart := rfl
@[simp] theorem setQueue_freeIndex (x : List Record) : (s.setQueue n x).freeIndex = s.freeIndex := rfl
@[simp] theorem setQueue_pending (x : List Record) : (s.setQueue n x).pending = s.pending := rfl

@[simp] theorem setQueue_slot (x : List Record) : (s.setQueue n x).slot m = s.slot m := rfl
@[simp] theorem setQueue_att (x : List Record) : (s.setQueue n x).att m = s.att m := rfl
@[simp] theorem setQueue_queue_self (x : List Record) : (s.setQueue n x).queue n = x := by simp [State.setQueue, State.queue]

@[simp] theorem setQueue_queue_other (x : List Record) (h : m ≠ n) : (s.setQueue n x).queue m = s.queue m := by
  have h' : n.val ≠ m.val := fun e => h (Fin.ext e.symm)
  simp [State.setQueue, State.queue, h']

@[simp] theorem setQueue_profile (x : List Record) : (s.setQueue n x).profile m = s.profile m := rfl
@[simp] theorem setQueue_requester (x : List Record) (r : Requester) : (s.setQueue n x).requester r = s.requester r := rfl
@[simp] theorem setQueue_running (x : List Record) : (s.setQueue n x).running = s.running := rfl
@[simp] theorem setQueue_sheds (x : List Record) : (s.setQueue n x).sheds = s.sheds := rfl
@[simp] theorem setQueue_restarting (x : List Record) : (s.setQueue n x).restarting = s.restarting := rfl
@[simp] theorem setQueue_effectiveLimit (x : List Record) : (s.setQueue n x).effectiveLimit = s.effectiveLimit := rfl
@[simp] theorem setQueue_inFlight (x : List Record) : (s.setQueue n x).inFlight m = s.inFlight m := rfl
@[simp] theorem setQueue_listed (x : List Record) : (s.setQueue n x).listed m = s.listed m := rfl
@[simp] theorem setQueue_wakeEntry (x : List Record) : (s.setQueue n x).wakeEntry m = s.wakeEntry m := rfl

/-! ## The updates by a function -/

@[simp] theorem updateSlot_eq (f : SlotRecord → SlotRecord) : s.updateSlot n f = s.setSlot n (f (s.slot n)) := rfl

@[simp] theorem updateAtt_eq (f : AttentionRecord → AttentionRecord) : s.updateAtt n f = s.setAtt n (f (s.att n)) := rfl

@[simp] theorem stopStep_eq : s.stopStep n = s.setSlot n { s.slot n with step := none } := rfl

end Sys2Proof.Machine
end

