-- ==== Sys2Proof/Laws/Frame.lean ====
section
/-! SUPPORT. What each shared operation can change: one frame lemma for each, and how frames compose. -/

namespace Sys2Proof.Machine

/-! ## How frames compose -/

theorem Unchanged.refl (l : List Field) (s : State) : Unchanged l s s := by
  intro f _; cases f <;> rfl

theorem Unchanged.mono {a b : List Field} {s t : State} (h : Unchanged a s t) (sub : ∀ f ∈ a, f ∈ b) : Unchanged b s t :=
  fun f hf => h f (fun h' => hf (sub f h'))

theorem Field.same_trans {f : Field} {s t u : State} (h : f.same s t) (k : f.same t u) : f.same s u := by
  cases f <;> exact Eq.trans h k

theorem Unchanged.trans {a : List Field} {s t u : State} (h : Unchanged a s t) (k : Unchanged a t u) : Unchanged a s u :=
  fun f hf => Field.same_trans (h f hf) (k f hf)

/-- Two frames one after the other, brought to one list that holds both. -/
theorem Unchanged.andThen {a b c : List Field} {s t u : State} (h : Unchanged a s t) (k : Unchanged b t u)
    (ha : ∀ f ∈ a, f ∈ c) (hb : ∀ f ∈ b, f ∈ c) : Unchanged c s u :=
  (h.mono ha).trans (k.mono hb)

/-- A frame of an operation that acts under a condition. -/
theorem Unchanged.ite {a : List Field} {s t u : State} {p : Prop} [Decidable p] (h : p → Unchanged a s t)
    (k : ¬ p → Unchanged a s u) : Unchanged a s (if p then t else u) := by
  split
  · exact h ‹_›
  · exact k ‹_›

/-- Operations with one frame, one after the other over a list. -/
theorem Unchanged.foldl {α : Type} {a : List Field} {op : State → α → State} (h : ∀ s x, Unchanged a s (op s x)) :
    ∀ (l : List α) (s : State), Unchanged a s (l.foldl op s)
  | [], s => Unchanged.refl a s
  | x :: l, s => (h s x).trans (Unchanged.foldl h l (op s x))

theorem OnlySlot.refl (n : Slot) (s : State) : OnlySlot n s s := fun _ _ => ⟨rfl, rfl, rfl, rfl⟩

theorem OnlySlot.trans {n : Slot} {s t u : State} (h : OnlySlot n s t) (k : OnlySlot n t u) : OnlySlot n s u := fun m hm =>
  ⟨(k m hm).1.trans (h m hm).1, (k m hm).2.1.trans (h m hm).2.1, (k m hm).2.2.1.trans (h m hm).2.2.1,
    (k m hm).2.2.2.trans (h m hm).2.2.2⟩

/-- An operation that leaves the four per-slot records alone acts on no slot. -/
theorem Unchanged.onlySlot {a : List Field} {s t : State} (h : Unchanged a s t) (n : Slot) (h1 : Field.slots ∉ a)
    (h2 : Field.attention ∉ a) (h3 : Field.queues ∉ a) (h4 : Field.profiles ∉ a) : OnlySlot n s t := fun m _ => by
  have e1 : s.slots = t.slots := h .slots h1
  have e2 : s.attention = t.attention := h .attention h2
  have e3 : s.queues = t.queues := h .queues h3
  have e4 : s.profiles = t.profiles := h .profiles h4
  simp [State.slot, State.att, State.queue, State.profile, e1, e2, e3, e4]

/-! ## Notices -/

theorem dropNotice_frame (s : State) : Unchanged [.lostCount, .firstLoss] s s.dropNotice := by
  intro f hf; cases f <;> first | rfl | exact absurd (by decide) hf

theorem raise_frame (s : State) (n : Notice) : Unchanged [.notices, .lostCount, .firstLoss] s (s.raise n) := by
  unfold State.raise
  refine Unchanged.ite (fun _ => ?_) (fun _ => (dropNotice_frame s).mono (by decide))
  intro f hf; cases f <;> first | rfl | exact absurd (by decide) hf

theorem raiseLink_frame (s : State) (k : NoticeKind) : Unchanged [.notices, .lostCount, .firstLoss] s (s.raiseLink k) := by
  unfold State.raiseLink
  refine Unchanged.ite (fun _ => ?_) (fun _ => raise_frame s _)
  intro f hf; cases f <;> first | rfl | exact absurd (by decide) hf

/-! ## Due events and shedding -/

theorem markEvaluation_frame (s : State) : Unchanged [.evaluationDue] s s.markEvaluation := by
  unfold State.markEvaluation
  refine Unchanged.ite (fun _ => Unchanged.refl _ s) (fun _ => ?_)
  intro f hf; cases f <;> first | rfl | exact absurd (by decide) hf

theorem markPass_frame (s : State) : Unchanged [.passDue] s s.markPass := by
  unfold State.markPass
  refine Unchanged.ite (fun _ => ?_) (fun _ => Unchanged.refl _ s)
  intro f hf; cases f <;> first | rfl | exact absurd (by decide) hf

theorem activateShedding_frame (s : State) (c : ActivationCause) :
    Unchanged [.shedding, .evaluationDue, .passDue, .notices, .lostCount, .firstLoss] s (s.activateShedding c) := by
  unfold State.activateShedding
  refine Unchanged.trans ?_ ((markPass_frame _).mono (by decide))
  refine Unchanged.trans ?_ ((raise_frame _ _).mono (by decide))
  intro f hf; cases f <;> first | rfl | exact absurd (by decide) hf

theorem endShedding_frame (s : State) (c : ShedEndCause) :
    Unchanged [.shedding, .evaluationDue, .passDue, .notices, .lostCount, .firstLoss] s (s.endShedding c) := by
  unfold State.endShedding
  refine Unchanged.trans ?_ ((markEvaluation_frame _).mono (by decide))
  refine Unchanged.trans ?_ ((raise_frame _ _).mono (by decide))
  intro f hf; cases f <;> first | rfl | exact absurd (by decide) hf

theorem limitSet_frame (s : State) (old : Nat) (c : ActivationCause) :
    Unchanged [.shedding, .evaluationDue, .passDue, .notices, .lostCount, .firstLoss] s (s.limitSet old c) := by
  unfold State.limitSet
  refine Unchanged.ite (fun _ => ?_) (fun _ => ?_)
  · refine Unchanged.ite (fun _ => Unchanged.refl _ s) (fun _ => ?_)
    exact Unchanged.ite (fun _ => endShedding_frame s _) (fun _ => (markPass_frame s).mono (by decide))
  · refine Unchanged.ite (fun _ => activateShedding_frame s _) (fun _ => ?_)
    exact Unchanged.ite (fun _ => (markEvaluation_frame s).mono (by decide)) (fun _ => Unchanged.refl _ s)

/-! ## The wake list -/

theorem gainReason_frame (s : State) (n : Slot) (why : WakeReason) (l : Level) :
    Unchanged [.wake, .joinCounter, .evaluationDue] s (s.gainReason n why l) := by
  unfold State.gainReason
  split
  · refine Unchanged.trans ?_ ((markEvaluation_frame _).mono (by decide))
    intro f hf; cases f <;> first | rfl | exact absurd (by decide) hf
  · refine Unchanged.ite (fun _ => ?_) (fun _ => Unchanged.trans ?_ ((markEvaluation_frame _).mono (by decide))) <;>
      (intro f hf; cases f <;> first | rfl | exact absurd (by decide) hf)

theorem removeEntry_frame (s : State) (n : Slot) : Unchanged [.wake, .evaluationDue] s (s.removeEntry n) := by
  unfold State.removeEntry
  refine Unchanged.ite (fun _ => Unchanged.trans ?_ ((markEvaluation_frame _).mono (by decide))) (fun _ => Unchanged.refl _ s)
  intro f hf; cases f <;> first | rfl | exact absurd (by decide) hf

theorem withdrawReason_frame (s : State) (n : Slot) (why : WakeReason) :
    Unchanged [.wake, .evaluationDue] s (s.withdrawReason n why) := by
  unfold State.withdrawReason
  split
  · exact Unchanged.refl _ s
  · refine Unchanged.ite (fun _ => removeEntry_frame s n) (fun _ => ?_)
    intro f hf; cases f <;> first | rfl | exact absurd (by decide) hf

/-! ## Updates of one record -/

theorem setSlot_frame (s : State) (n : Slot) (r : SlotRecord) : Unchanged [.slots] s (s.setSlot n r) := by
  intro f hf; cases f <;> first | rfl | exact absurd (by decide) hf

theorem setAtt_frame (s : State) (n : Slot) (a : AttentionRecord) : Unchanged [.attention] s (s.setAtt n a) := by
  intro f hf; cases f <;> first | rfl | exact absurd (by decide) hf

theorem setQueue_frame (s : State) (n : Slot) (q : List Record) : Unchanged [.queues] s (s.setQueue n q) := by
  intro f hf; cases f <;> first | rfl | exact absurd (by decide) hf

theorem setSlot_onlySlot (s : State) (n : Slot) (r : SlotRecord) : OnlySlot n s (s.setSlot n r) := fun m hm => by simp [hm]

theorem setAtt_onlySlot (s : State) (n : Slot) (a : AttentionRecord) : OnlySlot n s (s.setAtt n a) := fun m hm => by simp [hm]

theorem setQueue_onlySlot (s : State) (n : Slot) (q : List Record) : OnlySlot n s (s.setQueue n q) := fun m hm => by simp [hm]

/-! ## A change of state -/

theorem reportChange_frame (s : State) (n : Slot) (new : SlotState) (extra : List Byte) :
    Unchanged [.notices, .lostCount, .firstLoss] s (s.reportChange n new extra) := by
  unfold State.reportChange
  exact Unchanged.ite (fun _ => raise_frame s _) (fun _ => Unchanged.refl _ s)

theorem release_frame (s : State) (old new : Nat) : Unchanged [.committed, .evaluationDue] s (s.release old new) := by
  unfold State.release
  refine Unchanged.ite (fun _ => Unchanged.trans ?_ ((markEvaluation_frame _).mono (by decide))) (fun _ => Unchanged.refl _ s)
  intro f hf; cases f <;> first | rfl | exact absurd (by decide) hf

theorem leaveEvictionSet_frame (s : State) (n : Slot) :
    Unchanged [.evictionSet, .evaluationDue] s (s.leaveEvictionSet n) := by
  unfold State.leaveEvictionSet
  refine Unchanged.ite (fun _ => Unchanged.ite (fun _ => Unchanged.trans ?_ ((markEvaluation_frame _).mono (by decide)))
    (fun _ => ?_)) (fun _ => Unchanged.refl _ s) <;>
    (intro f hf; cases f <;> first | rfl | exact absurd (by decide) hf)

theorem changeState_frame (s : State) (n : Slot) (new : SlotState) (extra : List Byte) :
    Unchanged [.slots, .useOrder, .committed, .evictionSet, .evaluationDue, .control, .notices, .lostCount, .firstLoss] s
      (s.changeState n new extra) := by
  have h1 := (reportChange_frame s n new extra).mono
    (b := [.slots, .useOrder, .committed, .evictionSet, .evaluationDue, .control, .notices, .lostCount, .firstLoss]) (by decide)
  unfold State.changeState
  refine Unchanged.ite (fun _ => ?_) (fun _ => ?_)
  · refine Unchanged.trans ?_ ((leaveEvictionSet_frame _ n).mono (by decide))
    refine Unchanged.trans (h1.trans ?_) ((release_frame _ _ _).mono (by decide))
    intro f hf; cases f <;> first | rfl | exact absurd (by decide) hf
  · refine Unchanged.trans (h1.trans ?_) ((release_frame _ _ _).mono (by decide))
    intro f hf; cases f <;> first | rfl | exact absurd (by decide) hf

/-! ## Countdowns and control exchanges -/

theorem askControl_frame (s : State) (n : Slot) (c : ChainCommand) : Unchanged [.control] s (s.askControl n c) := by
  unfold State.askControl
  refine Unchanged.ite (fun _ => Unchanged.refl _ s) (fun _ => ?_)
  intro f hf; cases f <;> first | rfl | exact absurd (by decide) hf

theorem loadPoll_frame (s : State) (n : Slot) (p : StepPurpose) (ms : Nat) :
    Unchanged [.slots, .control] s (s.loadPoll n p ms) := by
  unfold State.loadPoll
  refine Unchanged.ite (fun _ => Unchanged.refl _ s) (fun _ => ?_)
  exact Unchanged.ite (fun _ => (askControl_frame s n _).mono (by decide)) (fun _ => (setSlot_frame s n _).mono (by decide))

theorem startIdleHold_frame (s : State) (n : Slot) : Unchanged [.slots] s (s.startIdleHold n) := by
  unfold State.startIdleHold
  exact Unchanged.ite (fun _ => setSlot_frame s n _) (fun _ => Unchanged.refl _ s)

theorem convertDrain_frame (s : State) (n : Slot) (c : DrainCause) : Unchanged [.slots] s (s.convertDrain n c) :=
  setSlot_frame s n _

/-! ## Attention -/

theorem raiseAttention_frame (s : State) (n : Slot) (st : Status) (d : List Byte) :
    Unchanged [.notices, .lostCount, .firstLoss] s (s.raiseAttention n st d) := raise_frame s _

theorem endAction_frame (s : State) (n : Slot) (st : Status) (d : List Byte) (h : Bool) :
    Unchanged [.attention, .notices, .lostCount, .firstLoss] s (s.endAction n st d h) :=
  (raiseAttention_frame s n st d).andThen (setAtt_frame _ n _) (by decide) (by decide)

theorem fetchDone_frame (s : State) (n : Slot) (st : Status) (d : List Byte) (h : Bool) :
    Unchanged [.attention, .notices, .lostCount, .firstLoss] s (s.fetchDone n st d h) := by
  unfold State.fetchDone
  exact Unchanged.ite (fun _ => (setAtt_frame s n _).mono (by decide)) (fun _ => endAction_frame s n st d h)

theorem attentionAtOff_frame (s : State) (n : Slot) :
    Unchanged [.attention, .claims, .wake, .evaluationDue, .notices, .lostCount, .firstLoss] s (s.attentionAtOff n) := by
  unfold State.attentionAtOff
  refine Unchanged.ite (fun _ => (setAtt_frame s n _).mono (by decide)) (fun _ => ?_)
  refine Unchanged.trans ?_ ((setAtt_frame _ n _).mono (by decide))
  split
  · refine Unchanged.trans ?_ ((raiseAttention_frame _ n _ _).mono (by decide))
    intro f hf; cases f <;> first | rfl | exact absurd (by decide) hf
  · exact (withdrawReason_frame s n _).andThen (raiseAttention_frame _ n _ _) (by decide) (by decide)
  · exact Unchanged.refl _ s
  · exact Unchanged.refl _ s
  · exact Unchanged.refl _ s

theorem attentionAtFault_frame (s : State) (n : Slot) :
    Unchanged [.attention, .claims, .notices, .lostCount, .firstLoss] s (s.attentionAtFault n) := by
  unfold State.attentionAtFault
  have h : ∀ t : State, Unchanged [.notices, .lostCount, .firstLoss] s t →
      Unchanged [.attention, .claims, .notices, .lostCount, .firstLoss] s
        { t.setAtt n AttentionRecord.reset with claims := t.claims.filter (· != n) } := fun t ht => by
    refine Unchanged.trans (ht.mono (by decide)) ?_
    intro f hf; cases f <;> first | rfl | exact absurd (by decide) hf
  apply h
  split
  · exact Unchanged.ite (fun _ => Unchanged.refl _ s) (fun _ => raiseAttention_frame s n _ _)
  · exact Unchanged.ite (fun _ => Unchanged.refl _ s) (fun _ => raiseAttention_frame s n _ _)
  · exact Unchanged.refl _ s
  · exact Unchanged.refl _ s
  · exact Unchanged.refl _ s

/-! ## Records -/

theorem writeLost_frame (s : State) (r : Record) (st : Status) :
    Unchanged [.notices, .lostCount, .firstLoss] s (s.writeLost r st) := raise_frame s _

theorem handOff_frame (s : State) (r : Record) (st : Status) (d : List Byte) (h : Bool) :
    Unchanged [.responses, .attention, .notices, .lostCount, .firstLoss] s (s.handOff r st d h) := by
  unfold State.handOff
  split
  · exact (fetchDone_frame s _ _ _ _).mono (by decide)
  · split
    · exact Unchanged.ite (fun _ => Unchanged.refl _ s) (fun _ => (writeLost_frame s r st).mono (by decide))
    · intro f hf; cases f <;> first | rfl | exact absurd (by decide) hf
    · intro f hf; cases f <;> first | rfl | exact absurd (by decide) hf

theorem completeAll_frame (s : State) (rs : List Record) (st : Record → Status) (h : Bool) :
    Unchanged [.responses, .attention, .notices, .lostCount, .firstLoss] s (s.completeAll rs st h) :=
  Unchanged.foldl (fun s r => handOff_frame s r (st r) [] h) rs s

/-- What a record that joins a queue, or a drain that ends, can change. -/
abbrev wakingFields : List Field :=
  [.slots, .useOrder, .committed, .wake, .joinCounter, .evictionSet, .evaluationDue, .queues, .claims, .control, .attention,
    .notices, .lostCount, .firstLoss]

theorem cancelDrain_frame (s : State) (n : Slot) : Unchanged wakingFields s (s.cancelDrain n) := by
  unfold State.cancelDrain
  have h := (changeState_frame s n .awake []).mono (b := wakingFields) (by decide)
  exact Unchanged.ite (fun _ => h.trans ((endAction_frame _ n _ _ _).mono (by decide))) (fun _ => h)

theorem joinQueue_frame (s : State) (n : Slot) (r : Record) : Unchanged wakingFields s (s.joinQueue n r) := by
  have h := (setQueue_frame s n (s.queue n ++ [r])).mono (b := wakingFields) (by decide)
  dsimp only [State.joinQueue]
  split
  · exact h.trans ((setSlot_frame _ n _).mono (by decide))
  · exact Unchanged.ite (fun _ => h.trans (cancelDrain_frame _ n)) (fun _ => h)
  · exact h.trans ((gainReason_frame _ n _ _).mono (by decide))
  · exact h.trans ((gainReason_frame _ n _ _).mono (by decide))
  · exact h
  · exact h
  · exact h
  · exact h

theorem createFetch_frame (s : State) (n : Slot) : Unchanged wakingFields s (s.createFetch n) :=
  ((setAtt_frame s n _).mono (by decide)).trans (joinQueue_frame _ n _)

theorem serveClaims_frame (s : State) : Unchanged wakingFields s s.serveClaims := by
  unfold State.serveClaims
  refine Unchanged.trans ?_ (Unchanged.foldl (fun s n => createFetch_frame s n) _ _)
  intro f hf; cases f <;> first | rfl | exact absurd (by decide) hf

theorem startAction_frame (s : State) (n : Slot) : Unchanged wakingFields s (s.startAction n) := by
  have hw := (setAtt_frame s n { s.att n with phase := .waitingAwake }).mono (b := wakingFields) (by decide)
  have he := (endAction_frame s n .ok [] true).mono (b := wakingFields) (by decide)
  dsimp only [State.startAction]
  split
  · exact Unchanged.refl _ s
  · exact he
  · split
    · exact he
    · exact hw.trans ((gainReason_frame _ n _ _).mono (by decide))
    · exact hw
    · exact hw
    · exact hw
    · exact hw
    · exact hw
    · exact hw
  · refine Unchanged.ite (fun _ => createFetch_frame s n) (fun _ => ?_)
    intro f hf; cases f <;> first | rfl | exact absurd (by decide) hf

theorem activation_frame (s : State) (n : Slot) : Unchanged wakingFields s (s.activation n) := by
  unfold State.activation
  split
  · exact Unchanged.ite (fun _ => Unchanged.refl _ s)
      (fun _ => ((setAtt_frame s n _).mono (by decide)).trans (startAction_frame _ n))
  · exact Unchanged.refl _ s
  · exact (setAtt_frame s n _).mono (by decide)
  · exact (setAtt_frame s n _).mono (by decide)
  · exact (setAtt_frame s n _).mono (by decide)

/-! ## Rest -/

theorem gainAtRest_frame (s : State) (n : Slot) (x : Bool) :
    Unchanged [.wake, .joinCounter, .evaluationDue] s (s.gainAtRest n x) := by
  unfold State.gainAtRest
  have h : Unchanged [.wake, .joinCounter, .evaluationDue] s
      (if (s.queue n).isEmpty then s else s.gainReason n .work (s.workLevel n)) :=
    Unchanged.ite (fun _ => Unchanged.refl _ s) (fun _ => gainReason_frame s n _ _)
  exact Unchanged.ite (fun _ => h.trans (gainReason_frame _ n _ _)) (fun _ => h)

theorem enterOff_frame (s : State) (n : Slot) (x : Bool) : Unchanged wakingFields s (s.enterOff n x) :=
  (((changeState_frame s n .off []).mono (by decide)).trans ((attentionAtOff_frame _ n).mono (by decide))).trans
    ((gainAtRest_frame _ n x).mono (by decide))

theorem enterSlumber_frame (s : State) (n : Slot) (x : Bool) : Unchanged wakingFields s (s.enterSlumber n x) := by
  have h : Unchanged wakingFields s ((s.changeState n .slumber []).gainAtRest n x) :=
    ((changeState_frame s n .slumber []).mono (by decide)).trans ((gainAtRest_frame _ n x).mono (by decide))
  unfold State.enterSlumber
  exact Unchanged.ite (fun _ => h.trans ((gainReason_frame _ n _ _).mono (by decide))) (fun _ => h)

theorem towardsRest_frame (s : State) (n : Slot) : Unchanged wakingFields s (s.towardsRest n) := by
  unfold State.towardsRest
  split
  · split
    · exact enterOff_frame s n _
    · exact (askControl_frame s n _).mono (by decide)
  · exact Unchanged.refl _ s

theorem startDrain_frame (s : State) (n : Slot) (c : DrainCause) (m : RestMode) :
    Unchanged wakingFields s (s.startDrain n c m) :=
  (((changeState_frame s n .draining _).mono (by decide)).trans ((setSlot_frame _ n _).mono (by decide))).trans
    (towardsRest_frame _ n)

theorem switchOff_frame (s : State) (n : Slot) (k : SwitchOffKind) : Unchanged wakingFields s (s.switchOff n k) := by
  unfold State.switchOff
  exact Unchanged.ite (fun _ => (setSlot_frame s n _).mono (by decide)) (fun _ => enterOff_frame s n _)

/-! ## Faults, answers, the end of an event -/

theorem reportFault_frame (s : State) (n : Slot) (k : FaultKind) (who : Option (Requester × Byte)) (x : NoticeKind) (c : Cause) :
    Unchanged [.fault, .notices, .lostCount, .firstLoss] s (s.reportFault n k who x c) := by
  unfold State.reportFault
  refine Unchanged.trans ?_ ((raise_frame _ _).mono (by decide))
  intro f hf; cases f <;> first | rfl | exact absurd (by decide) hf

theorem enterFaulted_frame (s : State) (n : Slot) (k : FaultKind) :
    Unchanged (.fault :: .responses :: wakingFields) s (s.enterFaulted n k) := by
  unfold State.enterFaulted
  refine Unchanged.trans ?_ ((reportFault_frame _ n _ _ _ _).mono (by decide))
  refine Unchanged.trans ?_ ((attentionAtFault_frame _ n).mono (by decide))
  refine Unchanged.trans ?_ ((completeAll_frame _ _ _ _).mono (by decide))
  refine Unchanged.trans ?_ ((setQueue_frame _ n _).mono (by decide))
  refine Unchanged.trans ?_ ((setAtt_frame _ n _).mono (by decide))
  exact (changeState_frame s n .faulted []).andThen (removeEntry_frame _ n) (by decide) (by decide)

theorem respond_frame (s : State) (c : Taken) (st : Status) (d : List Byte) :
    Unchanged [.immediate, .responses] s (s.respond c st d) := by
  intro f hf; cases f <;> first | rfl | exact absurd (by decide) hf

theorem finish_frame (s t : State) : Unchanged (.passDue :: .shedding :: wakingFields) t (s.finish t) := by
  dsimp only [State.finish]
  generalize h2 : (if newCandidate s t.serveClaims = true then t.serveClaims.markEvaluation else t.serveClaims) = t2
  have k2 : Unchanged (.passDue :: .shedding :: wakingFields) t t2 := by
    rw [← h2]
    exact ((serveClaims_frame t).mono (by decide)).trans
      (Unchanged.ite (fun _ => (markEvaluation_frame _).mono (by decide)) (fun _ => Unchanged.refl _ _))
  generalize h3 : (if courseChanged s t2 = true then t2.markPass else t2) = t3
  have k3 : Unchanged (.passDue :: .shedding :: wakingFields) t t3 := by
    rw [← h3]
    exact k2.trans (Unchanged.ite (fun _ => (markPass_frame _).mono (by decide)) (fun _ => Unchanged.refl _ _))
  exact Unchanged.ite (fun _ => k3.trans ((endShedding_frame _ _).mono (by decide))) (fun _ => k3)

end Sys2Proof.Machine
end

