-- ==== Sys2Proof/Laws/Ops.lean ====
section
/-! SUPPORT. What each shared operation does, said once for those who prove statements about the hub. -/

namespace Sys2Proof.Machine

variable (s : State) (n m : Slot)

/-! ## Every command completes -/

/-- The state after an outcome that is a next state. -/
theorem take_next {α : Type} (k : TakeKind) (form : List Byte → Option α) (carry : Taken → α → State → State) (s : State) :
    ∃ t, take k form carry s = .next t := ⟨_, rfl⟩

theorem event_next (due : Bool) (s : State) (f : State → State) : ∃ t, event due s f = .next t := ⟨_, rfl⟩

theorem event_due (s : State) (f : State → State) : event true s f = .next (s.finish (f s)) := rfl

theorem event_notDue (s : State) (f : State → State) : event false s f = .next s := rfl

theorem quietEvent_due (s : State) (f : State → State) : quietEvent true s f = .next (f s) := rfl

theorem quietEvent_notDue (s : State) (f : State → State) : quietEvent false s f = .next s := rfl

/-- Every command has a next state: the hub has no fault and no refusal. -/
theorem exec_next (c : Instr) (s : State) : ∃ t, exec c s = .next t := by
  cases c <;> first
    | exact ⟨_, rfl⟩
    | (simp only [exec, execAtnChange]; split
       · exact ⟨_, rfl⟩
       · split <;> exact ⟨_, rfl⟩)
    | (simp only [exec, execLifetimeExpiry, execResponseTimeoutExpiry, execReplyEnd]; split <;> exact ⟨_, rfl⟩)

/-- A step runs the front command. -/
theorem step_cons (c : Instr) (rest : List Instr) : step { s with pending := c :: rest } = exec c { s with pending := rest } := rfl

/-! ## Notices -/

theorem raise_room (x : Notice) (h : s.notices.length < 32) : s.raise x = { s with notices := s.notices ++ [x] } := by
  simp [State.raise, h]

theorem raise_full (x : Notice) (h : 32 ≤ s.notices.length) : s.raise x = s.dropNotice := by
  simp [State.raise, Nat.not_lt.mpr h]

theorem raise_raised (x : Notice) : NoticeRaised x s (s.raise x) := by
  unfold NoticeRaised
  by_cases h : s.notices.length < 32
  · simp [raise_room s x h, h]
  · simp [raise_full s x (Nat.not_lt.mp h), h, State.dropNotice]

/-- The waiting part of the queue in which an occurrence is folded, about the first notice of its kind. -/
theorem coalesceInto_eq (kind : NoticeKind) (now : Stamp) : ∀ l : List Notice, l.any (fun x => x.kind == kind) = true →
    ∃ before x after, l = before ++ x :: after ∧ x.kind = kind ∧
      coalesceInto kind now l = before ++ { x with count := min 255 (x.count + 1), data := word32 now } :: after
  | [], h => by simp at h
  | y :: l, h => by
    by_cases hy : y.kind = kind
    · exact ⟨[], y, l, rfl, hy, by simp [coalesceInto, hy]⟩
    · have hl : l.any (fun x => x.kind == kind) = true := by simpa [hy] using h
      obtain ⟨b, x, a, e1, e2, e3⟩ := coalesceInto_eq kind now l hl
      exact ⟨y :: b, x, a, by simp [e1], e2, by simp [coalesceInto, hy, e3]⟩

/-- LINK_CHECK and INGRESS_OVERRUN (R168, R169). -/
theorem raiseLink_raised (kind : NoticeKind) : OccurrenceRaised kind s (s.raiseLink kind) := by
  unfold OccurrenceRaised
  by_cases h : (s.notices.drop s.noticesInTransmission).any (fun x => x.kind == kind) = true
  · obtain ⟨b, x, a, e1, e2, e3⟩ := coalesceInto_eq kind s.timeBase _ h
    rw [if_pos h]
    refine ⟨s.notices.take s.noticesInTransmission ++ b, x, a, ?_, ?_, e2, ?_, ?_, ?_⟩
    · rw [List.append_assoc, ← e1, List.take_append_drop]
    · have hl := congrArg List.length e1
      simp only [List.length_append, List.length_take, List.length_drop, List.length_cons] at hl ⊢
      omega
    · simp only [State.raiseLink, h, if_true, e3, List.append_assoc]
    · simp [State.raiseLink, h]
    · simp [State.raiseLink, h]
  · rw [if_neg h]
    have hr : s.raiseLink kind = s.raise { s.blankNotice kind with count := 1, data := word32 s.timeBase } := by
      simp only [State.raiseLink]; rw [if_neg h]
    rw [hr]
    exact raise_raised s _

/-! ## Due events -/

@[simp] theorem markEvaluation_due : s.markEvaluation.evaluationDue = (s.evaluationDue || !s.sheds) := by
  unfold State.markEvaluation; cases h : s.sheds <;> simp

@[simp] theorem markPass_due : s.markPass.passDue = (s.passDue || (s.sheds && !s.restarting)) := by
  unfold State.markPass; cases h : s.sheds && !s.restarting <;> simp_all

theorem markEvaluation_eq : s.markEvaluation = { s with evaluationDue := s.evaluationDue || !s.sheds } := by
  unfold State.markEvaluation; cases h : s.sheds <;> simp

theorem markPass_eq : s.markPass = { s with passDue := s.passDue || (s.sheds && !s.restarting) } := by
  unfold State.markPass; cases h : s.sheds && !s.restarting <;> simp_all

/-! ## The wake list -/

theorem wakeEntry_slot {e : WakeEntry} (h : s.wakeEntry n = some e) : e.slot = n := by
  have := List.find?_some h; simpa using this

theorem listed_of_wakeEntry {e : WakeEntry} (h : s.wakeEntry n = some e) : s.listed n = true := by
  have hm := List.mem_of_find?_eq_some h
  exact List.any_eq_true.mpr ⟨e, hm, by simpa using wakeEntry_slot s n h⟩

theorem wakeEntry_none_iff : s.wakeEntry n = none ↔ s.listed n = false := by
  simp [State.wakeEntry, State.listed]

/-- A list of entries in which one slot's are replaced by an entry of the slot: the first of the slot is that entry. -/
theorem find_replaced (e' : WakeEntry) (he : e'.slot = n) : ∀ l : List WakeEntry, l.any (fun x => x.slot == n) = true →
    (l.map (fun x => if x.slot = n then e' else x)).find? (fun x => x.slot == n) = some e'
  | [], h => by simp at h
  | y :: l, h => by
    by_cases hy : y.slot = n
    · simp [hy, he]
    · have hl : l.any (fun x => x.slot == n) = true := by simpa [hy] using h
      have hb : (y.slot == n) = false := by simpa using hy
      rw [List.map_cons, if_neg hy, List.find?_cons, hb]
      exact find_replaced e' he l hl

theorem gainReason_gained (why : WakeReason) (l : Level) : ReasonGained n why l s (s.gainReason n why l) := by
  unfold ReasonGained State.gainReason
  cases h : s.wakeEntry n with
  | none => simp only [markEvaluation_eq]; simp [State.sheds]
  | some e =>
    have hs : e.slot = n := wakeEntry_slot s n h
    have hl : s.wake.any (fun x => x.slot == n) = true := listed_of_wakeEntry s n h
    have hf := find_replaced n { e with reasons := e.reasons.add why, level := higherLevel e.level l } hs s.wake hl
    have hm : ∀ e' : WakeEntry, e'.slot = n → (s.wake.map (fun x => if x.slot = n then e' else x)).map (·.slot) =
        s.wake.map (·.slot) := fun e' he' => by
      rw [List.map_map]; apply List.map_congr_left; intro x _
      by_cases hx : x.slot = n <;> simp [hx, he']
    by_cases hq : higherLevel e.level l = e.level
    · simp only [hq, if_true]
      refine ⟨?_, hm _ hs, trivial, by simp⟩
      simpa [State.wakeEntry, hq] using hf
    · simp only [hq, if_false, markEvaluation_eq]
      refine ⟨?_, hm _ hs, trivial, by simp [State.sheds, hq]⟩
      simpa [State.wakeEntry] using hf

theorem gainReason_listed (why : WakeReason) (l : Level) : (s.gainReason n why l).listed n = true := by
  have h := gainReason_gained s n why l
  unfold ReasonGained at h
  cases hw : s.wakeEntry n with
  | none => rw [hw] at h; simp [State.listed, h.1]
  | some e => rw [hw] at h; exact listed_of_wakeEntry _ n h.1

/-- Replacing the entries of one slot leaves the first entry of every other slot. -/
theorem find_replaced_other (e' : WakeEntry) (he : e'.slot = n) {m : Slot} (hm : m ≠ n) : ∀ l : List WakeEntry,
    (l.map (fun x => if x.slot = n then e' else x)).find? (fun x => x.slot == m) = l.find? (fun x => x.slot == m)
  | [] => rfl
  | y :: l => by
    have ih := find_replaced_other e' he hm l
    by_cases hy : y.slot = n
    · have h1 : (y.slot == m) = false := by simpa [hy] using Ne.symm hm
      have h2 : (e'.slot == m) = false := by simpa [he] using Ne.symm hm
      rw [List.map_cons, if_pos hy, List.find?_cons, List.find?_cons, h1, h2]; exact ih
    · rw [List.map_cons, if_neg hy, List.find?_cons, List.find?_cons, ih]

theorem gainReason_wakeEntry_other (why : WakeReason) (l : Level) {m : Slot} (hm : m ≠ n) :
    (s.gainReason n why l).wakeEntry m = s.wakeEntry m := by
  unfold State.gainReason
  cases h : s.wakeEntry n with
  | none =>
    have h' : (n == m) = false := by simpa using Ne.symm hm
    simp [markEvaluation_eq, State.wakeEntry, h']
  | some e =>
    have hs : e.slot = n := wakeEntry_slot s n h
    have hf := find_replaced_other n { e with reasons := e.reasons.add why, level := higherLevel e.level l } hs hm s.wake
    dsimp only
    split
    · exact hf
    · rw [markEvaluation_eq]; exact hf

/-- Reason PIN at level 1 stands in the slot's entry, whether or not the slot was listed before. -/
theorem gainReason_pin_entry :
    ∃ e, (s.gainReason n .pin .urgent).wakeEntry n = some e ∧ e.reasons.pin = true ∧ e.level = .urgent := by
  have h := gainReason_gained s n .pin .urgent
  unfold ReasonGained at h
  cases hw : s.wakeEntry n with
  | none =>
    rw [hw] at h
    refine ⟨{ slot := n, join := s.joinCounter, level := .urgent, reasons := ReasonSet.none.add .pin, passed := 0 }, ?_, rfl, rfl⟩
    have hn : s.wake.find? (fun x => x.slot == n) = none := hw
    simp [State.wakeEntry, h.1, List.find?_append, hn]
  | some e =>
    rw [hw] at h
    exact ⟨_, h.1, rfl, by cases e.level <;> rfl⟩

theorem removeEntry_wake : (s.removeEntry n).wake = s.wake.filter (fun e => e.slot != n) := by
  unfold State.removeEntry
  by_cases h : s.listed n = true
  · simp [h, markEvaluation_eq]
  · rw [if_neg h]
    refine (List.filter_eq_self.mpr (fun e he => ?_)).symm
    simp only [State.listed, List.any_eq_true, not_exists, not_and] at h
    simpa using h e he

theorem removeEntry_listed : (s.removeEntry n).listed n = false := by
  simp [State.listed, removeEntry_wake]

/-! ## A change of state -/

/-- What a change of state leaves in each field it acts on (R2, R18, R25, R46, R106). -/
theorem changeState_slots (new : SlotState) (x : List Byte) :
    (s.changeState n new x).slots = s.slots.set n ((s.slot n).changed new) := by
  have hr : (s.reportChange n new x).slots = s.slots := ((reportChange_frame s n new x) .slots (by decide)).symm
  have hl : ∀ (t : State) (a b : Nat), (t.release a b).slots = t.slots := fun t a b =>
    ((release_frame t a b) .slots (by decide)).symm
  have hv : ∀ t : State, (t.leaveEvictionSet n).slots = t.slots := fun t =>
    ((leaveEvictionSet_frame t n) .slots (by decide)).symm
  dsimp only [State.changeState]
  split <;> simp [hl, hv, hr]

@[simp] theorem changeState_slot_self (new : SlotState) (x : List Byte) :
    (s.changeState n new x).slot n = (s.slot n).changed new := by
  simp [State.slot, changeState_slots]

theorem changeState_onlySlot (new : SlotState) (x : List Byte) : OnlySlot n s (s.changeState n new x) := fun k hk => by
  have f := changeState_frame s n new x
  have e2 : s.attention = _ := f .attention (by decide)
  have e3 : s.queues = _ := f .queues (by decide)
  have e4 : s.profiles = _ := f .profiles (by decide)
  have h' : n.val ≠ k.val := fun e => hk (Fin.ext e.symm)
  refine ⟨?_, ?_, ?_, ?_⟩
  · simp [State.slot, changeState_slots, h']
  · simp [State.att, e2]
  · simp [State.queue, e3]
  · simp [State.profile, e4]

theorem release_committed (a b : Nat) : (s.release a b).committed = s.committed - (a - b) := by
  unfold State.release
  split
  · simp [markEvaluation_eq]
  · omega

theorem changeState_committed (new : SlotState) (x : List Byte) :
    (s.changeState n new x).committed = s.committed - ((s.slot n).charge - ((s.slot n).changed new).charge) := by
  have hr : (s.reportChange n new x).committed = s.committed := ((reportChange_frame s n new x) .committed (by decide)).symm
  have hv : ∀ t : State, (t.leaveEvictionSet n).committed = t.committed := fun t =>
    ((leaveEvictionSet_frame t n) .committed (by decide)).symm
  dsimp only [State.changeState]
  split <;> simp [release_committed, hv, hr]

theorem changeState_control (new : SlotState) (x : List Byte) :
    (s.changeState n new x).control = s.control.filter (fun c => c.slot != n) := by
  have hr : (s.reportChange n new x).control = s.control := ((reportChange_frame s n new x) .control (by decide)).symm
  have hl : ∀ (t : State) (a b : Nat), (t.release a b).control = t.control := fun t a b =>
    ((release_frame t a b) .control (by decide)).symm
  have hv : ∀ t : State, (t.leaveEvictionSet n).control = t.control := fun t =>
    ((leaveEvictionSet_frame t n) .control (by decide)).symm
  dsimp only [State.changeState]
  split <;> simp [hl, hv, hr]

theorem changeState_useOrder (new : SlotState) (x : List Byte) :
    (s.changeState n new x).useOrder = useOrderAfter s.useOrder n (s.slot n).state new := by
  have hr : (s.reportChange n new x).useOrder = s.useOrder := ((reportChange_frame s n new x) .useOrder (by decide)).symm
  have hl : ∀ (t : State) (a b : Nat), (t.release a b).useOrder = t.useOrder := fun t a b =>
    ((release_frame t a b) .useOrder (by decide)).symm
  have hv : ∀ t : State, (t.leaveEvictionSet n).useOrder = t.useOrder := fun t =>
    ((leaveEvictionSet_frame t n) .useOrder (by decide)).symm
  dsimp only [State.changeState]
  split <;> simp [hl, hv, hr]

theorem leaveEvictionSet_set : (s.leaveEvictionSet n).evictionSet = s.evictionSet.filter (· != n) := by
  dsimp only [State.leaveEvictionSet]
  split
  · split <;> simp [markEvaluation_eq]
  · refine (List.filter_eq_self.mpr (fun e he => ?_)).symm
    rename_i h
    simp only [bne_iff_ne, ne_eq]
    exact fun e' => h (e' ▸ he)

theorem changeState_evictionSet (new : SlotState) (x : List Byte) :
    (s.changeState n new x).evictionSet =
      if new = .slumber ∨ new = .off ∨ new = .faulted then s.evictionSet.filter (· != n) else s.evictionSet := by
  have hr : (s.reportChange n new x).evictionSet = s.evictionSet :=
    ((reportChange_frame s n new x) .evictionSet (by decide)).symm
  have hl : ∀ (t : State) (a b : Nat), (t.release a b).evictionSet = t.evictionSet := fun t a b =>
    ((release_frame t a b) .evictionSet (by decide)).symm
  dsimp only [State.changeState]
  split <;> simp [hl, hr, leaveEvictionSet_set]

/-! ## Shedding edges and the limit -/

/-- The arbiter's answer to a limit that has been set anew (R32, R54, R64, R65). -/
theorem limitSet_answered (old : Nat) (cause : ActivationCause) :
    LimitAnswered cause old s.effectiveLimit s (s.limitSet old cause) := by
  have hraise : ∀ (t : State) (x : Notice), t.timeBase = s.timeBase → t.notices = s.notices → t.lostCount = s.lostCount →
      t.firstLoss = s.firstLoss → NoticeRaised x s (t.raise x) := fun t x h1 h2 h3 h4 => by
    have := raise_raised t x
    simpa only [NoticeRaised, h1, h2, h3, h4] using this
  unfold LimitAnswered
  by_cases hs : s.sheds = true
  · have hl : s.limitSet old cause = if s.effectiveLimit = old then s
        else if old < s.effectiveLimit ∧ s.committed ≤ s.effectiveLimit then s.endShedding .limitRaise else s.markPass := by
      simp [State.limitSet, hs]
    by_cases h1 : s.effectiveLimit = old
    · simp [hl, h1, hs]
    · by_cases h2 : old < s.effectiveLimit ∧ s.committed ≤ s.effectiveLimit
      · simp only [hl, h1, h2, hs, Bool.true_eq_false, false_and, if_false, if_true, and_self]
        simp only [State.endShedding, markEvaluation_eq]
        refine ⟨?_, ?_, ?_, ?_⟩
        · exact ((raise_frame _ _) .shedding (by decide)).symm
        · exact ((raise_frame _ _) .passDue (by decide)).symm
        · have : (State.raise { s with shedding := { s.shedding with active := none }, passDue := false }
              { s.blankNotice .shedEnd with cause := some (.shedEnd .limitRaise), count := s.shedding.victims,
                                            data := s.shedData }).sheds = false := by
            unfold State.sheds; rw [← ((raise_frame _ _) .shedding (by decide))]; rfl
          simp [this]
        · exact hraise _ _ rfl rfl rfl rfl
      · simp only [hl, h1, h2, hs, Bool.true_eq_false, false_and, if_false]
        simp [markPass_eq, hs, h1]
  · have hs' : s.sheds = false := by simpa using hs
    by_cases h1 : s.effectiveLimit < s.committed
    · have hl : s.limitSet old cause = s.activateShedding cause := by simp [State.limitSet, hs', h1]
      simp only [hl, hs', h1, and_self, if_true]
      simp only [State.activateShedding, markPass_eq]
      refine ⟨((raise_frame _ _) .shedding (by decide)).symm, ((raise_frame _ _) .evaluationDue (by decide)).symm, ?_,
        hraise _ _ rfl rfl rfl rfl⟩
      intro hr
      have h2 : ∀ x : Notice, (State.raise { s with shedding := { active := some cause, victims := 0 }, evaluationDue := false }
          x).sheds = true := fun x => by
        unfold State.sheds; rw [← ((raise_frame _ x) .shedding (by decide))]; rfl
      have h3 : ∀ x : Notice, (State.raise { s with shedding := { active := some cause, victims := 0 }, evaluationDue := false }
          x).restarting = false := fun x => by
        unfold State.restarting at hr ⊢; rw [← ((raise_frame _ x) .restart (by decide))]; exact hr
      simp [h2, h3]
    · have hl : s.limitSet old cause = if cause = .limitWrite ∨ old < s.effectiveLimit then s.markEvaluation else s := by
        simp [State.limitSet, hs', h1]
      by_cases h2 : cause = .limitWrite ∨ old < s.effectiveLimit
      · simp only [hl, hs', h1, h2, if_true, and_false, if_false, markEvaluation_eq]
        rcases h2 with h2 | h2 <;> simp [h2]
      · simp only [hl, hs', h1, h2, if_true, and_false, if_false]
        simp only [not_or] at h2
        simp [h2.1, h2.2]

/-! ## Attention actions -/

theorem endAction_att (st : Status) (d : List Byte) (h : Bool) :
    (s.endAction n st d h).att n = (s.att n).afterNotice (s.profile n) h := by
  have ha : (s.raiseAttention n st d).attention = s.attention := ((raiseAttention_frame s n st d) .attention (by decide)).symm
  simp [State.endAction, State.att, ha]

/-- The attention record of an action that has ended in its notice (R119, R120). -/
theorem endAction_ended (st : Status) (d : List Byte) : AttentionEnded (s.profile n) (s.att n) ((s.endAction n st d true).att n) := by
  rw [endAction_att]
  unfold AttentionEnded AttentionRecord.afterNotice
  split <;> rfl

theorem endAction_raised (st : Status) (d : List Byte) (h : Bool) :
    NoticeRaised { kind := .attention, stamp := s.timeBase, slot := some n, requesterTag := none, unit := none,
                   cause := some (.status st), count := (s.att n).repeatCount, data := d } s (s.endAction n st d h) :=
  raise_raised s _

theorem endAction_onlySlot (st : Status) (d : List Byte) (h : Bool) : OnlySlot n s (s.endAction n st d h) :=
  ((raiseAttention_frame s n st d).onlySlot n (by decide) (by decide) (by decide) (by decide)).trans (setAtt_onlySlot _ n _)

/-! ## Coming to rest -/

theorem gainAtRest_listed (x : Bool) (h : s.queue n ≠ [] ∨ (s.slot n).pin = true ∧ x = false) :
    (s.gainAtRest n x).listed n = true := by
  dsimp only [State.gainAtRest]
  by_cases hq : (s.queue n).isEmpty = true
  · have hp : (s.slot n).pin = true ∧ x = false := by
      rcases h with h | h
      · exact absurd (List.isEmpty_iff.mp hq) h
      · exact h
    simp only [hq, if_true, hp, and_self]
    exact gainReason_listed _ n _ _
  · have e : (if (s.queue n).isEmpty = true then s else s.gainReason n .work (s.workLevel n)) =
        s.gainReason n .work (s.workLevel n) := if_neg hq
    rw [e]
    split
    · exact gainReason_listed _ n _ _
    · exact gainReason_listed s n _ _

theorem attentionAtOff_att : ((s.attentionAtOff n).att n).sensing = false ∧ ((s.attentionAtOff n).att n).lastLevel = none ∧
    ((s.attentionAtOff n).att n).senseRead = none := by
  dsimp only [State.attentionAtOff]
  split
  · simp
  · simp [AttentionRecord.reset]

theorem attentionAtOff_onlySlot : OnlySlot n s (s.attentionAtOff n) := by
  have w : ∀ t : State, Unchanged [.claims, .wake, .evaluationDue, .notices, .lostCount, .firstLoss] s t → OnlySlot n s t :=
    fun t h => h.onlySlot n (by decide) (by decide) (by decide) (by decide)
  dsimp only [State.attentionAtOff]
  split
  · exact setAtt_onlySlot s n _
  · refine OnlySlot.trans (w _ ?_) (setAtt_onlySlot _ n _)
    split
    · refine Unchanged.trans ?_ ((raiseAttention_frame _ n _ _).mono (by decide))
      intro f hf; cases f <;> first | rfl | exact absurd (by decide) hf
    · exact (withdrawReason_frame s n _).andThen (raiseAttention_frame _ n _ _) (by decide) (by decide)
    · exact Unchanged.refl _ s
    · exact Unchanged.refl _ s
    · exact Unchanged.refl _ s

theorem enterOff_queues (x : Bool) : (s.enterOff n x).queues = s.queues :=
  (((changeState_frame s n .off []) .queues (by decide)).trans (((attentionAtOff_frame _ n) .queues (by decide)).trans
    ((gainAtRest_frame _ n x) .queues (by decide)))).symm

/-- A slot that enters OFF (R2, R3, R14, R17, R19). -/
theorem enterOff_entered (x : Bool) : OffEntered n (s.slot n).failures s (s.enterOff n x) := by
  have f2 := attentionAtOff_frame (s.changeState n .off []) n
  have f3 := gainAtRest_frame ((s.changeState n .off []).attentionAtOff n) n x
  have eS : (s.enterOff n x).slots = (s.changeState n .off []).slots :=
    ((f2 .slots (by decide)).trans (f3 .slots (by decide))).symm
  have eQ : (s.enterOff n x).queues = s.queues := (enterOff_queues s n x)
  have eA : (s.enterOff n x).attention = ((s.changeState n .off []).attentionAtOff n).attention :=
    (f3 .attention (by decide)).symm
  have hslot : (s.enterOff n x).slot n = (s.slot n).changed .off := by
    have := changeState_slot_self s n .off []
    simpa only [State.slot, eS] using this
  refine ⟨?_, ?_, ?_, ?_, ?_, ?_, ?_, ?_, ?_, ?_, ?_, (enterOff_frame s n x).mono (by decide)⟩
  · simp [hslot, SlotRecord.changed, SlotState.powered]
  · have h1 : (s.enterOff n x).committed = (s.changeState n .off []).committed :=
      ((f2 .committed (by decide)).trans (f3 .committed (by decide))).symm
    rw [h1, changeState_committed]
    simp [SlotRecord.changed, SlotRecord.charge]
  · simp [State.queue, eQ]
  · have h1 : (s.enterOff n x).useOrder = (s.changeState n .off []).useOrder :=
      ((f2 .useOrder (by decide)).trans (f3 .useOrder (by decide))).symm
    rw [h1, changeState_useOrder]; rfl
  · have h1 : (s.enterOff n x).control = (s.changeState n .off []).control :=
      ((f2 .control (by decide)).trans (f3 .control (by decide))).symm
    rw [h1, changeState_control]
  · have h1 : (s.enterOff n x).evictionSet = (s.changeState n .off []).evictionSet :=
      ((f2 .evictionSet (by decide)).trans (f3 .evictionSet (by decide))).symm
    rw [h1, changeState_evictionSet]; simp
  · intro hq
    refine gainAtRest_listed _ n x (Or.inl ?_)
    have h1 : ((s.changeState n .off []).attentionAtOff n).queues = s.queues :=
      ((changeState_frame s n .off []) .queues (by decide)).trans (f2 .queues (by decide)) |>.symm
    simpa only [State.queue, h1] using hq
  · have := (attentionAtOff_att (s.changeState n .off []) n).1
    simpa only [State.att, eA] using this
  · have := (attentionAtOff_att (s.changeState n .off []) n).2.1
    simpa only [State.att, eA] using this
  · have := (attentionAtOff_att (s.changeState n .off []) n).2.2
    simpa only [State.att, eA] using this
  · exact ((changeState_onlySlot s n .off []).trans (attentionAtOff_onlySlot _ n)).trans
      (f3.onlySlot n (by decide) (by decide) (by decide) (by decide))

/-! ## Records that complete -/

/-- What completes to the response queue (R87): the READ and WRITE records of a requester. -/
def handedOn (r : Record) (st : Status) (d : List Byte) : List ResponseItem :=
  if r.owner ≠ .attention ∧ r.op ≠ .writePosted then
    [.record { r with state := .done, deadline := none, status := some st,
                      readData := if r.op = .read then (if st = .ok then some d else none) else r.readData }]
  else []

theorem handOff_responses (r : Record) (st : Status) (d : List Byte) (h : Bool) :
    (s.handOff r st d h).responses = s.responses ++ handedOn r st d := by
  unfold State.handOff handedOn
  split
  · rename_i ho
    have hf : s.responses = (s.fetchDone r.slot st (if st = .ok then d else []) h).responses :=
      (fetchDone_frame s r.slot st (if st = .ok then d else []) h) .responses (by decide)
    simp [ho, ← hf]
  · rename_i q ho
    split
    · rename_i hop
      have hw : s.responses = (s.writeLost r st).responses := (writeLost_frame s r st) .responses (by decide)
      split <;> simp [hop, ← hw]
    · rename_i hop; simp [ho, hop]
    · rename_i hop; simp [ho, hop]

theorem completeAll_responses (st : Record → Status) (h : Bool) : ∀ (rs : List Record) (s : State),
    (s.completeAll rs st h).responses = s.responses ++ rs.flatMap (fun r => handedOn r (st r) [])
  | [], s => by simp [State.completeAll]
  | r :: rs, s => by
    have ih := completeAll_responses st h rs (s.handOff r (st r) [] h)
    simp only [State.completeAll, List.foldl_cons, List.flatMap_cons] at ih ⊢
    rw [ih, handOff_responses, List.append_assoc]

theorem handOff_onlySlot (r : Record) (st : Status) (d : List Byte) (h : Bool) (hr : r.slot = n) :
    OnlySlot n s (s.handOff r st d h) := by
  unfold State.handOff
  split
  · rw [hr]; unfold State.fetchDone
    split
    · exact setAtt_onlySlot s n _
    · exact endAction_onlySlot s n _ _ _
  · split
    · split
      · exact OnlySlot.refl n s
      · exact (writeLost_frame s r st).onlySlot n (by decide) (by decide) (by decide) (by decide)
    · exact OnlySlot.refl n s
    · exact OnlySlot.refl n s

theorem completeAll_onlySlot (st : Record → Status) (h : Bool) : ∀ (rs : List Record) (s : State), (∀ r ∈ rs, r.slot = n) →
    OnlySlot n s (s.completeAll rs st h)
  | [], s, _ => OnlySlot.refl n s
  | r :: rs, s, hr =>
    (handOff_onlySlot s n r (st r) [] h (hr r (List.mem_cons_self ..))).trans
      (completeAll_onlySlot st h rs _ (fun x hx => hr x (List.mem_cons_of_mem r hx)))

/-! ## Slot faults -/

/-- The fault record takes a fault (R173). -/
theorem reportFault_latched (k : FaultKind) (who : Option (Requester × Byte)) (x : NoticeKind) (c : Cause) :
    FaultLatched k n who s (s.reportFault n k who x c) := by
  have hf : (s.reportFault n k who x c).fault =
      s.fault.take { kind := k, slot := n, stamp := s.timeBase, requesterTag := who } :=
    ((raise_frame _ _) .fault (by decide)).symm
  unfold FaultLatched FaultRecord.take at *
  cases h : s.fault.latched <;> simp_all

/-- The fault's notice stands at the tail where the queue has room (R173). -/
theorem reportFault_notices (k : FaultKind) (who : Option (Requester × Byte)) (x : NoticeKind) (c : Cause)
    (h : s.notices.length < 32) : (s.reportFault n k who x c).notices = s.notices ++
      [{ kind := x, stamp := s.timeBase, slot := some n, requesterTag := who, unit := none, cause := some c,
         count := (s.fault.take { kind := k, slot := n, stamp := s.timeBase, requesterTag := who }).overflow,
         data := [(s.fault.take { kind := k, slot := n, stamp := s.timeBase, requesterTag := who }).serial,
           if s.fault.latched.isNone then 0x01 else 0x00] }] := by
  simp [State.reportFault, State.raise, h, State.blankNotice]

theorem raise_length (x : Notice) : (s.raise x).notices.length ≤ s.notices.length + 1 := by
  unfold State.raise; split
  · simp
  · simp [State.dropNotice]

theorem handOff_length (r : Record) (st : Status) (d : List Byte) (h : Bool) :
    (s.handOff r st d h).notices.length ≤ s.notices.length + 1 := by
  unfold State.handOff
  split
  · unfold State.fetchDone
    split
    · exact Nat.le_succ _
    · exact raise_length s _
  · split
    · split
      · exact Nat.le_succ _
      · exact raise_length s _
    · exact Nat.le_succ _
    · exact Nat.le_succ _

theorem completeAll_length (st : Record → Status) (h : Bool) : ∀ (rs : List Record) (s : State),
    (s.completeAll rs st h).notices.length ≤ s.notices.length + rs.length
  | [], s => Nat.le_refl _
  | r :: rs, s => by
    have h1 := handOff_length s r (st r) [] h
    have h2 : ((s.handOff r (st r) [] h).completeAll rs st h).notices.length ≤ _ := completeAll_length st h rs _
    have e : s.completeAll (r :: rs) st h = (s.handOff r (st r) [] h).completeAll rs st h := rfl
    rw [e, List.length_cons]; omega

theorem changeState_length (new : SlotState) (x : List Byte) :
    (s.changeState n new x).notices.length ≤ s.notices.length + 1 := by
  have hr : (s.reportChange n new x).notices.length ≤ s.notices.length + 1 := by
    unfold State.reportChange; split
    · exact raise_length s _
    · exact Nat.le_succ _
  have hl : ∀ (t : State) (a b : Nat), t.notices = (t.release a b).notices := fun t a b =>
    (release_frame t a b) .notices (by decide)
  have hv : ∀ t : State, t.notices = (t.leaveEvictionSet n).notices := fun t =>
    (leaveEvictionSet_frame t n) .notices (by decide)
  dsimp only [State.changeState]
  split <;> simp [← hl, ← hv, hr]

theorem attentionAtFault_att : (s.attentionAtFault n).att n = AttentionRecord.reset := by
  simp [State.attentionAtFault, State.att, State.setAtt]

theorem attentionAtFault_onlySlot : OnlySlot n s (s.attentionAtFault n) := by
  have w : ∀ t : State, Unchanged [.notices, .lostCount, .firstLoss] s t → OnlySlot n s
      { t.setAtt n AttentionRecord.reset with claims := t.claims.filter (· != n) } := fun t h =>
    (h.onlySlot n (by decide) (by decide) (by decide) (by decide)).trans (setAtt_onlySlot t n _)
  dsimp only [State.attentionAtFault]
  apply w
  split
  · exact Unchanged.ite (fun _ => Unchanged.refl _ s) (fun _ => raiseAttention_frame s n _ _)
  · exact Unchanged.ite (fun _ => Unchanged.refl _ s) (fun _ => raiseAttention_frame s n _ _)
  · exact Unchanged.refl _ s
  · exact Unchanged.refl _ s
  · exact Unchanged.refl _ s

theorem attentionAtFault_claims (h : s.claims = []) : (s.attentionAtFault n).claims = [] := by
  have w : ∀ t : State, Unchanged [.notices, .lostCount, .firstLoss] s t →
      (t.claims.filter (· != n)) = [] := fun t ht => by
    have e : s.claims = t.claims := ht .claims (by decide)
    rw [← e, h]; rfl
  dsimp only [State.attentionAtFault]
  apply w
  split
  · exact Unchanged.ite (fun _ => Unchanged.refl _ s) (fun _ => raiseAttention_frame s n _ _)
  · exact Unchanged.ite (fun _ => Unchanged.refl _ s) (fun _ => raiseAttention_frame s n _ _)
  · exact Unchanged.refl _ s
  · exact Unchanged.refl _ s
  · exact Unchanged.refl _ s

theorem attentionAtFault_length : (s.attentionAtFault n).notices.length ≤ s.notices.length + 1 := by
  have w : ∀ t : State, t.notices.length ≤ s.notices.length + 1 →
      ({ t.setAtt n AttentionRecord.reset with claims := t.claims.filter (· != n) } : State).notices.length ≤
        s.notices.length + 1 := fun t h => h
  dsimp only [State.attentionAtFault]
  apply w
  split
  · split
    · exact Nat.le_succ _
    · exact raise_length s _
  · split
    · exact Nat.le_succ _
    · exact raise_length s _
  · exact Nat.le_succ _
  · exact Nat.le_succ _
  · exact Nat.le_succ _

theorem handedOn_fault (r : Record) : handedOn r (faultStatus r) [] =
    if r.owner ≠ .attention ∧ r.op ≠ .writePosted then
      [.record { r with state := .done, deadline := none,
                        status := some (if r.state = .dispatched then .noReply else .slotFaulted),
                        readData := if r.op = .read then none else r.readData }]
    else [] := by
  unfold handedOn faultStatus
  split
  · split <;> split <;> simp
  · rfl

/-- A slot that enters FAULTED (R22, R90, R127, R173), its records in its own queue and no claim waiting. -/
theorem enterFaulted_entered (kind : FaultKind) (hq : ∀ r ∈ s.queue n, r.slot = n) (hc : s.claims = []) :
    FaultEntered n kind (if kind = .faultThreshold then s.inFlightOwner n else none) (s.slot n).failures s
      (s.enterFaulted n kind) := by
  generalize hwho : (if kind = .faultThreshold then s.inFlightOwner n else none) = who
  generalize h1 : (s.changeState n .faulted []).removeEntry n = s1
  generalize h2 : (s1.updateAtt n (fun a => { a with sensing := false, lastLevel := none, senseRead := none })).setQueue n [] = s2
  generalize h3 : (s2.completeAll (s.queue n) faultStatus true) = s3
  have hex : s.enterFaulted n kind = (s3.attentionAtFault n).reportFault n kind who .slotFaulted (.fault kind) := by
    rw [← hwho, ← h3, ← h2, ← h1]; rfl
  have fC := changeState_frame s n .faulted []
  have fR := removeEntry_frame (s.changeState n .faulted []) n
  have f1 : Unchanged [.slots, .useOrder, .committed, .evictionSet, .evaluationDue, .control, .notices, .lostCount, .firstLoss,
      .wake] s s1 := h1 ▸ fC.andThen fR (by decide) (by decide)
  have f2 : Unchanged [.attention, .queues] s1 s2 :=
    h2 ▸ (setAtt_frame s1 n _).andThen (setQueue_frame _ n _) (by decide) (by decide)
  have f3 : Unchanged [.responses, .attention, .notices, .lostCount, .firstLoss] s2 s3 := h3 ▸ completeAll_frame s2 _ _ _
  have f4 := attentionAtFault_frame s3 n
  have f5 := reportFault_frame (s3.attentionAtFault n) n kind who .slotFaulted (.fault kind)
  have o1 : OnlySlot n s s1 := h1 ▸ (changeState_onlySlot s n .faulted []).trans
    (fR.onlySlot n (by decide) (by decide) (by decide) (by decide))
  have o2 : OnlySlot n s1 s2 := h2 ▸ (setAtt_onlySlot s1 n _).trans (setQueue_onlySlot _ n _)
  have o3 : OnlySlot n s2 s3 := h3 ▸ completeAll_onlySlot n _ _ _ s2 hq
  have o4 := attentionAtFault_onlySlot s3 n
  have o5 : OnlySlot n _ _ := f5.onlySlot n (by decide) (by decide) (by decide) (by decide)
  have back : ∀ f : Field, f ∉ [Field.attention, .queues] → f ∉ [Field.responses, .attention, .notices, .lostCount, .firstLoss] →
      f ∉ [Field.attention, .claims, .notices, .lostCount, .firstLoss] → f ∉ [Field.fault, .notices, .lostCount, .firstLoss] →
      f.same s1 (s.enterFaulted n kind) := fun f a b c d => by
    rw [hex]
    exact Field.same_trans (Field.same_trans (Field.same_trans (f2 f a) (f3 f b)) (f4 f c)) (f5 f d)
  have eSlots : s1.slots = (s.enterFaulted n kind).slots := back .slots (by decide) (by decide) (by decide) (by decide)
  have e1 : s1.slots = (s.changeState n .faulted []).slots := h1 ▸ (fR .slots (by decide)).symm
  have hresp : (s.enterFaulted n kind).responses = s3.responses := by
    rw [hex]
    exact ((f5 .responses (by decide)).symm.trans (f4 .responses (by decide)).symm : _ = _)
  have hs2r : s2.responses = s.responses :=
    ((f2 .responses (by decide)).symm.trans (f1 .responses (by decide)).symm : _ = _)
  have time : (s3.attentionAtFault n).timeBase = s.timeBase :=
    ((f4 .timeBase (by decide)).symm.trans ((f3 .timeBase (by decide)).symm.trans ((f2 .timeBase (by decide)).symm.trans
      (f1 .timeBase (by decide)).symm)) : _ = _)
  have flt : (s3.attentionAtFault n).fault = s.fault :=
    ((f4 .fault (by decide)).symm.trans ((f3 .fault (by decide)).symm.trans ((f2 .fault (by decide)).symm.trans
      (f1 .fault (by decide)).symm)) : _ = _)
  have len : (s3.attentionAtFault n).notices.length ≤ s.notices.length + (s.queue n).length + 2 := by
    have l1 := changeState_length s n .faulted []
    have l1' : s1.notices = (s.changeState n .faulted []).notices := h1 ▸ (fR .notices (by decide)).symm
    have l2 : s1.notices = s2.notices := f2 .notices (by decide)
    have l3 := completeAll_length faultStatus true (s.queue n) s2
    rw [h3] at l3
    have l4 := attentionAtFault_length s3 n
    rw [l1', ] at l2
    rw [← l2] at l3
    omega
  refine ⟨?_, ?_, ?_, ?_, ?_, ?_, ?_, ?_, ?_, ?_, ?_, ?_, ?_⟩
  · have h := changeState_slot_self s n .faulted []
    have h' : (s.enterFaulted n kind).slot n = (s.slot n).changed .faulted := by
      simpa only [State.slot, ← eSlots, e1] using h
    rw [h']; simp [SlotRecord.changed, SlotState.powered]
  · have a : s1.committed = (s.enterFaulted n kind).committed := back .committed (by decide) (by decide) (by decide) (by decide)
    have b : s1.committed = (s.changeState n .faulted []).committed := h1 ▸ (fR .committed (by decide)).symm
    rw [← a, b, changeState_committed]; simp [SlotRecord.changed, SlotRecord.charge]
  · have a : s2.queues = (s.enterFaulted n kind).queues := by
      rw [hex]
      exact ((f3 .queues (by decide)).trans ((f4 .queues (by decide)).trans (f5 .queues (by decide))) : _ = _)
    have b : s2.queue n = [] := by rw [← h2]; simp
    simpa only [State.queue, ← a] using b
  · have a : (s3.attentionAtFault n).attention = (s.enterFaulted n kind).attention := by
      rw [hex]; exact f5 .attention (by decide)
    have b := attentionAtFault_att s3 n
    simpa only [State.att, a, AttentionRecord.reset] using b
  · have a : s1.wake = (s.enterFaulted n kind).wake := back .wake (by decide) (by decide) (by decide) (by decide)
    have b : s.wake = (s.changeState n .faulted []).wake := fC .wake (by decide)
    rw [← a, ← h1, removeEntry_wake, ← b]
  · have a : s1.useOrder = (s.enterFaulted n kind).useOrder := back .useOrder (by decide) (by decide) (by decide) (by decide)
    have b : s1.useOrder = (s.changeState n .faulted []).useOrder := h1 ▸ (fR .useOrder (by decide)).symm
    rw [← a, b, changeState_useOrder]; rfl
  · have a : s1.control = (s.enterFaulted n kind).control := back .control (by decide) (by decide) (by decide) (by decide)
    have b : s1.control = (s.changeState n .faulted []).control := h1 ▸ (fR .control (by decide)).symm
    rw [← a, b, changeState_control]
  · have a : s1.evictionSet = (s.enterFaulted n kind).evictionSet :=
      back .evictionSet (by decide) (by decide) (by decide) (by decide)
    have b : s1.evictionSet = (s.changeState n .faulted []).evictionSet := h1 ▸ (fR .evictionSet (by decide)).symm
    rw [← a, b, changeState_evictionSet]; simp
  · rw [hresp, ← h3, completeAll_responses, hs2r]
    congr 1
    unfold State.awaited
    induction s.queue n with
    | nil => rfl
    | cons r l ih =>
      rw [List.flatMap_cons, handedOn_fault, ih]
      by_cases hr : r.owner ≠ .attention ∧ r.op ≠ .writePosted
      · have hb : (r.owner != .attention && r.op != .writePosted) = true := by simpa using hr
        simp [hr, hb]
      · have hb : (r.owner != .attention && r.op != .writePosted) = false := by simpa using hr
        rw [if_neg hr, List.filter_cons, hb]; rfl
  · have h := reportFault_latched (s3.attentionAtFault n) n kind who .slotFaulted (.fault kind)
    rw [hex]
    simpa only [FaultLatched, flt, time] using h
  · intro hroom
    have hl : (s3.attentionAtFault n).notices.length < 32 := by omega
    have hfa : (s.enterFaulted n kind).fault =
        s.fault.take { kind := kind, slot := n, stamp := s.timeBase, requesterTag := who } := by
      rw [hex]
      have : _ = ((s3.attentionAtFault n).reportFault n kind who .slotFaulted (.fault kind)).fault :=
        (raise_frame _ _) .fault (by decide)
      rw [← this, flt, time]
    generalize hF : s.fault.take { kind := kind, slot := n, stamp := s.timeBase, requesterTag := who } = F at hfa
    have hno : (s.enterFaulted n kind).notices = (s3.attentionAtFault n).notices ++
        [{ kind := .slotFaulted, stamp := s.timeBase, slot := some n, requesterTag := who, unit := none,
           cause := some (.fault kind), count := F.overflow,
           data := [F.serial, if s.fault.latched.isNone then 0x01 else 0x00] }] := by
      rw [hex, reportFault_notices _ n kind who .slotFaulted (.fault kind) hl, time, flt, hF]
    rw [hno]
    refine ⟨_, List.mem_append_right _ (List.mem_singleton.mpr rfl), rfl, rfl, rfl, rfl, rfl, ?_, ?_⟩
    · rw [hfa]
    · rw [hfa]; simp
  · rw [hex]; exact (((o1.trans o2).trans o3).trans o4).trans o5
  · intro f hf
    by_cases hcl : f = .claims
    · subst hcl
      have a : s.claims = s3.claims :=
        ((f1 .claims (by decide)).trans ((f2 .claims (by decide)).trans (f3 .claims (by decide))) : _ = _)
      have b : (s3.attentionAtFault n).claims = [] := attentionAtFault_claims s3 n (a ▸ hc)
      have c : (s3.attentionAtFault n).claims = (s.enterFaulted n kind).claims := by rw [hex]; exact f5 .claims (by decide)
      show s.claims = _
      rw [hc, ← c, b]
    · have sub : ∀ (l : List Field), (∀ g ∈ l, g = .claims ∨ g ∈ [Field.slots, .committed, .queues, .attention, .wake, .useOrder,
          .control, .evictionSet, .responses, .fault, .notices, .lostCount, .firstLoss, .evaluationDue, .passDue, .shedding,
          .exchange, .responseTimeout]) → f ∉ l := fun l hl hm => by
        rcases hl f hm with h | h
        · exact hcl h
        · exact hf h
      exact Field.same_trans (f1 f (sub _ (by decide)))
        (back f (sub _ (by decide)) (sub _ (by decide)) (sub _ (by decide)) (sub _ (by decide)))

/-! ## Records that join -/

theorem joinQueue_queue (r : Record) : (s.joinQueue n r).queue n = s.queue n ++ [r] := by
  have w : ∀ t : State, (s.setQueue n (s.queue n ++ [r])).queues = t.queues → t.queue n = s.queue n ++ [r] := fun t h => by
    have : (s.setQueue n (s.queue n ++ [r])).queue n = s.queue n ++ [r] := by simp
    show t.queues[n] = _
    rw [← h]; exact this
  have hc : ∀ t : State, t.queues = (t.cancelDrain n).queues := fun t => by
    unfold State.cancelDrain
    have a := (changeState_frame t n .awake []) .queues (by decide)
    dsimp only
    split
    · exact Field.same_trans a ((endAction_frame _ n _ _ _) .queues (by decide))
    · exact a
  dsimp only [State.joinQueue]
  apply w
  split
  · rfl
  · split
    · exact hc _
    · rfl
  · exact (gainReason_frame _ n _ _) .queues (by decide)
  · exact (gainReason_frame _ n _ _) .queues (by decide)
  · rfl
  · rfl
  · rfl
  · rfl

/-! ## The end of an event -/

/-- Without an exchange in flight for the slot every record of its queue is QUEUED (R83, R87). -/
theorem dispatchesSound_queued (h : s.dispatchesSound) {n : Slot} (hf : s.inFlight n = false) :
    ∀ r ∈ s.queue n, r.state = .queued := by
  obtain ⟨htail, hhead⟩ := h n
  cases hq : s.queue n with
  | nil => simp
  | cons r rest =>
    rw [hq] at htail hhead
    intro x hx
    rcases List.mem_cons.mp hx with rfl | hx
    · refine Decidable.byContradiction (fun hne => ?_)
      obtain ⟨-, -, he⟩ := hhead x (by simp) hne
      cases hs : s.exchange with
      | none => simp [hs] at he
      | some e =>
        simp only [hs, Option.map_some, Option.some.injEq, Prod.mk.injEq] at he
        simp [State.inFlight, hs, he.1] at hf
    · exact htail x (by simpa using hx)

/-- No claim is served where the list is empty, or where no record is free (R79). -/
theorem serveClaims_none (h : s.claimsSound) : s.serveClaims = s := by
  rcases h with h | h
  · simp [State.serveClaims, h]; rw [← h]
  · simp [State.serveClaims, Nat.sub_eq_zero_of_le h]

/-- The end of an event in which no claim is served acts on no slot and no record. -/
theorem finish_sound (t : State) (h : t.claimsSound) :
    Unchanged [.passDue, .shedding, .evaluationDue, .notices, .lostCount, .firstLoss] t (s.finish t) := by
  dsimp only [State.finish]
  rw [serveClaims_none t h]
  generalize h2 : (if newCandidate s t = true then t.markEvaluation else t) = t2
  have k2 : Unchanged [.passDue, .shedding, .evaluationDue, .notices, .lostCount, .firstLoss] t t2 := by
    rw [← h2]
    exact Unchanged.ite (fun _ => (markEvaluation_frame t).mono (by decide)) (fun _ => Unchanged.refl _ _)
  generalize h3 : (if courseChanged s t2 = true then t2.markPass else t2) = t3
  have k3 : Unchanged [.passDue, .shedding, .evaluationDue, .notices, .lostCount, .firstLoss] t t3 := by
    rw [← h3]
    exact k2.trans (Unchanged.ite (fun _ => (markPass_frame _).mono (by decide)) (fun _ => Unchanged.refl _ _))
  exact Unchanged.ite (fun _ => k3.trans ((endShedding_frame _ _).mono (by decide))) (fun _ => k3)

/-- An event that frees no record for a claim, makes no slot a candidate and changes no course ends as it stands. -/
theorem finish_quiet (t : State) (h : t.claimsSound) (hc : newCandidate s t = false) (hp : courseChanged s t = false) :
    s.finish t = t := by
  have hcm : s.committed = t.committed := by
    simp only [courseChanged, Bool.or_eq_false_iff, bne_eq_false_iff_eq] at hp
    exact hp.1
  simp [State.finish, serveClaims_none t h, hc, hp, hcm]

theorem newCandidate_same (t : State) (h : ∀ k, t.candidate k = true → s.candidate k = true)
    (hd : ∀ k, (t.slot k).idleDraining = true → (s.slot k).idleDraining = true) : newCandidate s t = false := by
  simp only [newCandidate, List.any_eq_false]
  intro k _
  cases hk : t.candidate k
  · simp
  · cases hi : (t.slot k).idleDraining
    · simp [h k hk]
    · simp [h k hk, hd k hi]

theorem courseChanged_same (t : State) (h1 : s.committed = t.committed)
    (h2 : ∀ k, (s.slot k).state = (t.slot k).state ∧ (s.slot k).pendingRelease = (t.slot k).pendingRelease) :
    courseChanged s t = false := by
  simp only [courseChanged, h1, bne_self_eq_false, Bool.false_or, List.any_eq_false]
  intro k _
  simp [(h2 k).1, (h2 k).2]

/-! ## Takes -/

/-- A due take of kind `k` hands its frame to admission. -/
theorem takeHead_due {c : Taken} {frame : List Byte} {rest : List (List Byte)} {k : TakeKind} (h : s.takeDue c frame rest)
    (hk : takeKindOf frame = none ∨ takeKindOf frame = some k) : s.takeHead k = some (c, frame) := by
  obtain ⟨h1, h2, h3, h4, h5, h6⟩ := h
  obtain ⟨e, r, t⟩ := c
  subst h5 h6
  simp only [State.takeHead, h1, h2, h3, h4, Bool.and_self, hk, if_true]

theorem take_due {α : Type} {c : Taken} {frame : List Byte} {rest : List (List Byte)} {k : TakeKind} (h : s.takeDue c frame rest)
    (hk : takeKindOf frame = none ∨ takeKindOf frame = some k) (form : List Byte → Option α)
    (carry : Taken → α → State → State) :
    take k form carry s = .next (commonChecks c (form frame) carry { s with ingress := rest }) := by
  simp only [take, takeHead_due s h hk, h.2.2.1, List.tail_cons]

/-- Checks 1 to 3 pass. -/
theorem admit_served {α : Type} {c : Taken} (h : s.served c) (a : α) (carry : Taken → α → State → State) (rest : List (List Byte)) :
    commonChecks c (some a) carry { s with ingress := rest } = carry c a { s with ingress := rest } := by
  have h1 : (State.requester { s with ingress := rest } c.requester).enabled = true := h.1
  have h2 : State.tagInUse { s with ingress := rest } c.requester c.tag = false := h.2
  simp [commonChecks, h1, h2]

/-- The manage right is there. -/
theorem manage_managed {α : Type} {c : Taken} (h : s.managed c) (a : α) (op : Taken → α → State → State)
    (rest : List (List Byte)) : manage op c a { s with ingress := rest } = op c a { s with ingress := rest } := by
  have h1 : (State.requester { s with ingress := rest } c.requester).manage = true := h.2
  simp [manage, h1]

/-- The answer to a taken frame that changes nothing else. -/
theorem respond_answered (c : Taken) (rest : List (List Byte)) (st : Status) (d : List Byte) :
    ({ s with ingress := rest } : State).respond c st d = s.answered c rest st d := rfl

/-- A management operation that is due and allowed is its operation on the state without the frame. -/
theorem take_managed {α : Type} {c : Taken} {frame : List Byte} {rest : List (List Byte)} {k : TakeKind}
    (h : s.takeDue c frame rest) (hk : takeKindOf frame = some k) (form : List Byte → Option α) {a : α}
    (ha : form frame = some a) (hm : s.managed c) (op : Taken → α → State → State) :
    take k form (manage op) s = .next (op c a { s with ingress := rest }) := by
  rw [take_due s h (Or.inr hk), ha, admit_served s hm.1, manage_managed s hm]

/-- A slot argument of 0 to 23 names its slot. -/
theorem withSlot_some (op : Taken → Slot → State → State) (c : Taken) {b : Byte} {k : Slot} (h : b.toNat = k.val) :
    withSlot op c b s = op c k s := by
  have hb : slotOfByte b = some k := by
    simp [slotOfByte, h]
  simp [withSlot, hb]

theorem withSlot_none (op : Taken → Slot → State → State) (c : Taken) {b : Byte} (h : 24 ≤ b.toNat) :
    withSlot op c b s = s.respond c .badIndex [] := by
  have hb : slotOfByte b = none := by simp [slotOfByte, Nat.not_lt.mpr h]
  simp [withSlot, hb]

end Sys2Proof.Machine
end

