-- ==== Sys2Proof/Tests/Slice0.lean ====
section
/-! SUPPORT. The model's own tests: the checks of well-formedness, single events on small states, and, for every statement that has
hypotheses, concrete states and operands that meet them, clause by clause. -/

set_option Elab.async false

namespace Sys2Proof.Tests

open Sys2Proof Sys2Proof.Machine

/-! ## Small states -/

/-- The running hub, every block at its reset values. -/
def on : State := { State.reset with hub := .running }

/-- A profile of weights 10 and 2, of module type 5. -/
def card : Profile :=
  { Profile.reset with power := { Profile.reset.power with present := true, awake := 10, standby := 2, moduleType := 5 } }

/-- The running hub with slot 3 fitted and in a state, charged as the state is, and a limit of 100. -/
def hubWith (st : SlotState) : State :=
  let r : SlotRecord := { SlotRecord.reset with state := st, sen := st.powered, grantedAwake := 10, grantedStandby := 2 }
  { on with
    profiles := on.profiles.set 3 card
    slots := on.slots.set 3 r
    committed := r.charge
    useOrder := if st = .awake ∨ st = .draining then [3] else []
    budget := { on.budget with normalLimit := 100 } }

/-- The hub with the slot record of slot 3 changed. -/
def hubBut (st : SlotState) (f : SlotRecord → SlotRecord) : State := (hubWith st).updateSlot 3 f

/-- A record of requester 1 and tag 9 on slot 3. -/
def job (op : DataOp) (st : RecordState) : Record :=
  { owner := .requester 1, tag := some 9, unit := some 4, slot := 3, op := op, address := 16, length := 2,
    writeData := if op = .read then none else some [1, 2], readData := none, level := .normal, deadline := none, state := st,
    attempt := 0, status := none }

/-- A Unit Map entry for unit 4 on slot 3. -/
def entry : UnitEntry :=
  { UnitEntry.reset with valid := true, number := 4, slot := 3, base := 16, length := 8, mask := 0xFF, read := true,
                         write := true, post := true }

/-- A management frame of requester 0 with tag 7. -/
def mgmt (code : Byte) (args : List Byte) : List Byte := [0, 7, 0, 0, code] ++ args

/-- A data frame of requester 0 with tag 7 on unit 4, length 2. -/
def data (code : Byte) (offset : Byte) (bytes : List Byte) : List Byte := [0, 7, 0, 4, code, 0, offset, 2, 0, 0] ++ bytes

/-- The state with a frame at the head of ingress, and unit 4 in the map. -/
def asked (s : State) (frame : List Byte) : State := { s with ingress := [frame], unitMap := s.unitMap.set 0 entry }

/-- What the take of such a frame reserves. -/
def me : Taken := { entry := 0, requester := 0, tag := 7 }

/-- The state after a command. -/
def after (c : Instr) (s : State) : State :=
  match exec c s with
  | .next t => t
  | .fault _ => s
  | .refused _ => s

/-- An exchange for slot 3. -/
def talk (command : ChainCommand) (phase : AttemptPhase) : Exchange :=
  { slot := 3, command := command, attempt := 0, phase := phase, frame := commandFrame 3 command 0 2 [] }

/-- A reply of slot 3. -/
def replyOf (status : Byte) (bytes : List Byte) : List Byte :=
  let fields : List Byte := 3 :: status :: byteOf bytes.length :: bytes
  fields ++ [crc8 fields]

/-- The hub with an exchange in flight and its response timeout running. -/
def talking (s : State) (e : Exchange) : State := { s with exchange := some e, responseTimeout := some 500 }

/-- A notice of no particular content. -/
def note : Notice := State.reset.blankNotice .attention

/-- The waiting entry of slot 3. -/
def waits (l : Level) : WakeEntry := { slot := 3, join := 0, level := l, reasons := ReasonSet.none.add .work, passed := 0 }

/-! ## Well-formedness: one ill-formed term for each check -/

theorem test_wellFormed_reception_empty : (Instr.frameArrival []).wellFormed = false := by decide +kernel
theorem test_wellFormed_reception_tooLong : (Instr.frameArrival (List.replicate 93 0)).wellFormed = false := by decide +kernel
theorem test_wellFormed_reception_delimiterInside : (Instr.frameArrival [1, 0x5A, 2, 0x5A]).wellFormed = false := by
  decide +kernel
theorem test_wellFormed_reception_openingInside : (Instr.frameArrival [1, 0xA5, 2, 0x5A]).wellFormed = false := by
  decide +kernel
theorem test_wellFormed_reception : (Instr.frameArrival (linkFrame 0x01 (mgmt 0x06 [])).tail).wellFormed = true := by
  decide +kernel
theorem test_wellFormed_reply_short : (Instr.replyEnd [3, 0]).wellFormed = false := by decide +kernel
theorem test_wellFormed_reply_missingByte : (Instr.replyEnd [3, 0, 1, 9]).wellFormed = false := by decide +kernel
theorem test_wellFormed_reply_extraByte : (Instr.replyEnd [3, 0, 0, 9, 9]).wellFormed = false := by decide +kernel
theorem test_wellFormed_reply_beyondLength : (Instr.replyEnd [3, 0, 33, 1]).wellFormed = false := by decide +kernel
theorem test_wellFormed_reply : (Instr.replyEnd (replyOf 0 [1, 2])).wellFormed = true := by decide +kernel
theorem test_wellFormed_reply_lengthAbove32 : (Instr.replyEnd [3, 0, 33]).wellFormed = true := by decide +kernel
theorem test_noWordSpellsACommand : Sys2Proof.decodeTableWord 8 0 = none := by decide +kernel

/-! ## Single events -/

theorem test_start_sends_ready : (after .start State.reset).notices = [readyNotice .powerOn] := by decide +kernel
theorem test_coldReset_holds : (after (.coldReset .resetPin) on).hub = .held .resetPin := by decide +kernel
theorem test_timeBase_wraps : (after .timeBaseAdvance { on with timeBase := 0xFFFFFFFF }).timeBase = 0 := by decide +kernel
theorem test_supplyLow_loads_debounce : (after (.supplyLowChange true) on).debounce = some 5 := by decide +kernel
theorem test_supplyLow_taken_sheds :
    (after .supplyLowDebounceExpiry { hubWith .awake with supplyLowPin := true, debounce := some 5 }).shedding =
      { active := some .supplyLow, victims := 0 } := by decide +kernel
theorem test_reception_opens : (after .frameReceptionStart on).receiver = .receiving := by decide +kernel
theorem test_arrival_unescapes :
    (after (.frameArrival (linkFrame 0x01 [1, 0xA5, 0, 4, 0x5A]).tail) { on with receiver := .receiving }).ingress =
      [[1, 0xA5, 0, 4, 0x5A]] := by decide +kernel
theorem test_readBudget_answers : (after .readBudget (asked on (mgmt 0x06 []))).immediate[0] =
    .ready { requester := 0, tag := 7, status := .ok, contents := [0, 0, 0, 0, 0, 0, 0, 0, 0, 0, 0] } := by decide +kernel
theorem test_readSlot_answers : (after .readSlot (asked (hubWith .awake) (mgmt 0x04 [3]))).immediate[0] =
    .ready { requester := 0, tag := 7, status := .ok, contents := [4, 10, 10, 2, 0, 0, 0, 0, 0, 0xFF, 0xFF, 0xFF, 0] } := by
  decide +kernel
theorem test_findUnit_answers : (after .findUnit (asked on (mgmt 0x03 [0, 4]))).immediate[0] =
    .ready { requester := 0, tag := 7, status := .ok, contents := [0] } := by decide +kernel
theorem test_readEntry_answers : (after .readEntry (asked on (mgmt 0x01 [1, 0]))).immediate[0] =
    .ready { requester := 0, tag := 7, status := .ok, contents := [0x1D, 0, 4, 3, 0, 16, 0, 7, 0xFF, 0, 0] } := by decide +kernel
theorem test_writeEntry_duplicate :
    (after .writeEntryUnit (asked on (mgmt 0x02 ([1, 1] ++ layUnitEntry entry)))).immediate[0] =
      .ready { requester := 0, tag := 7, status := .duplicate, contents := [] } := by decide +kernel
theorem test_writeProfile_inUse :
    (after .writeEntryProfile (asked (hubWith .awake) (mgmt 0x02 ([2, 3] ++ layProfile Profile.reset)))).immediate[0] =
      .ready { requester := 0, tag := 7, status := .inUse, contents := [] } := by decide +kernel
theorem test_read_joins_queue_and_wakes : (after .read (asked (hubWith .off) (data 0x01 1 []))).listed 3 = true := by
  decide +kernel
theorem test_writePosted_answered :
    (after .writePosted (asked (hubWith .awake) (data 0x03 1 [8, 9]))).immediate[0] =
      .ready { requester := 0, tag := 7, status := .posted, contents := [] } := by decide +kernel
theorem test_write_out_of_range :
    (after .write (asked (hubWith .awake) (data 0x02 7 [8, 9]))).immediate[0] =
      .ready { requester := 0, tag := 7, status := .range, contents := [] } := by decide +kernel
theorem test_slotWake_lists : (after .slotWake (asked (hubWith .slumber) (mgmt 0x07 [3, 1]))).wake =
    [{ slot := 3, join := 0, level := .urgent, reasons := ReasonSet.none.add .managed, passed := 0 }] := by decide +kernel
theorem test_slotRest_asks_slumber : (after .slotRest (asked (hubWith .awake) (mgmt 0x08 [3]))).control =
    [{ slot := 3, command := .slumber }] := by decide +kernel
theorem test_slotOff_releases : (after .slotOff (asked (hubWith .awake) (mgmt 0x09 [3]))).committed = 0 := by decide +kernel
theorem test_pin_gains_reason : (after .pin (asked (hubWith .off) (mgmt 0x0A [3]))).listed 3 = true := by decide +kernel
theorem test_unpin_starts_idleHold :
    ((after .unpin (asked (hubBut .awake (fun r => { r with pin := true })) (mgmt 0x0B [3]))).slot 3).step =
      some { purpose := .idleHold, ms := 100 } := by decide +kernel
theorem test_slotClear_returns : ((after .slotClear (asked (hubWith .faulted) (mgmt 0x0C [3]))).slot 3).state = .off := by
  decide +kernel
theorem test_clearFault_stale : (after .clearFault (asked on (mgmt 0x0E [1]))).immediate[0] =
    .ready { requester := 0, tag := 7, status := .stale, contents := [] } := by decide +kernel
theorem test_restart_waits : (after .restart (asked on (mgmt 0x0F []))).restart = .waiting 0 0 7 := by decide +kernel
theorem test_restartCompletion_answers :
    (after .restartCompletion { hubWith .awake with restart := .waiting 0 0 7, taking := false }).responses = [.immediate 0] := by
  decide +kernel
theorem test_evaluation_grants :
    ((after .evaluation { hubWith .off with evaluationDue := true, wake := [waits .normal] }).slot 3).state = .powering := by
  decide +kernel
theorem test_selectionPass_drains :
    ((after .selectionPass { hubWith .awake with
      shedding := { active := some .limitWrite, victims := 0 }, passDue := true,
      budget := { on.budget with normalLimit := 5 } }).slot 3).drain = some { cause := .shed, target := .slumber } := by
  decide +kernel
theorem test_chainSelection_dispatches :
    (after .chainSelection ((hubWith .awake).setQueue 3 [job .read .queued])).roundRobin = 3 := by decide +kernel
theorem test_replyEnd_completes :
    (after (.replyEnd (replyOf 0 [8, 9])) (talking ((hubWith .awake).setQueue 3 [job .read .dispatched])
      (talk .read .receiving))).responses =
      [.record { job .read .done with status := some .ok, readData := some [8, 9] }] := by decide +kernel
theorem test_timeout_retries :
    (after .responseTimeoutExpiry (talking ((hubWith .awake).setQueue 3 [job .read .dispatched])
      (talk .read .awaiting))).exchange = some { talk .read .sending with attempt := 1 } := by decide +kernel
theorem test_identify_awakes :
    ((after (.replyEnd (replyOf 0 [0, 5, 1])) (talking (hubWith .powering) (talk .identify .receiving))).slot 3).state =
      .awake := by decide +kernel
theorem test_identify_mismatch_faults :
    (after (.replyEnd (replyOf 0 [0, 6, 1])) (talking (hubWith .powering) (talk .identify .receiving))).fault.latched =
      some { kind := .typeMismatch, slot := 3, stamp := 0, requesterTag := none } := by decide +kernel
theorem test_attention_notifies :
    (after (.atnChange 3 true) { hubWith .awake with
      attention := on.attention.set 3 { AttentionRecord.reset with sensing := true, lastLevel := some false, senseRead := some .edge }
      profiles := on.profiles.set 3 { card with action := .notify } }).notices =
      [{ note with slot := some 3, cause := some (.status .ok) }] := by decide +kernel

/-- The sense mode is read at a change of the line: an action that began under EDGE ends under it, though LEVEL has been written since
and the line is held active (R131). -/
theorem test_sense_mode_read_at_line_change :
    let a : AttentionRecord :=
      { AttentionRecord.reset with
        sensing := true, lastLevel := some true, senseRead := some .edge, pending := true, phase := .fetching }
    let s : State := { hubWith .awake with
      attention := on.attention.set 3 a, profiles := on.profiles.set 3 { card with action := .fetch, sense := .level } }
    (s.endAction 3 .ok [1] true).att 3 =
      { a with pending := false, repeatCount := 0, phase := .idle, holdoff := none } := by decide +kernel

/-- SLOT OFF makes a selection pass due on a shedding victim whose pending release it does not change (R63). -/
theorem test_slot_off_victim_makes_pass_due :
    let s : State := { hubBut .draining (fun r => { r with drain := some { cause := .shed, target := .off } }) with
      shedding := { active := some .supplyLow, victims := 1 }, exchange := some (talk .read .awaiting) }
    let t := slotOffOp { entry := 0, requester := 0, tag := 7 } 3 s
    t.passDue = true ∧ (t.slot 3).pendingRelease = (s.slot 3).pendingRelease := by decide +kernel

theorem test_output_prefers_notice_after_eight :
    (after .outputChoice { on with responseRun := 8, notices := [note], responses := [.immediate 0] }).transmitter =
      .notice (noticeFrame note) := by decide +kernel

/-! ## The hypotheses of the statements, met clause by clause

`hyp_<Name>` shows concrete states and operands for the statement `Obligations.<Name>`; `edge_<what>` does so for the branches of
what statements speak of. -/

/-- What a statement about a managed take asks for, met by `me` and an empty rest. -/
abbrev taken (s : State) (k : TakeKind) (frame : List Byte) : Prop :=
  s.takeDue me frame [] ∧ takeKindOf frame = some k ∧ s.managed me

/-- The hub with 24 notices in the queue, or as many as are asked for. -/
def noted (k : Nat) : State := { on with notices := List.replicate k note }

/-- The hub with as many live records as are asked for, on slot 3. -/
def busy (s : State) (k : Nat) : State := s.setQueue 3 (List.replicate k (job .read .queued))

/-- Slot 3 AWAKE with its line sensed at a level, a profile and an attention record. -/
def sensed (p : Profile) (a : AttentionRecord) (line : Bool) : State :=
  { hubWith .awake with
    attention := on.attention.set 3 { a with sensing := true, lastLevel := some line, senseRead := some p.sense }
    profiles := on.profiles.set 3 p
    atnLines := on.atnLines.set 3 line }

/-- The attention record in a phase. -/
def inPhase (ph : AttentionPhase) : AttentionRecord :=
  { AttentionRecord.reset with pending := true, phase := ph, holdoff := if ph = .holdoff then some 10 else none }

/-- The whole table of one valid entry has distinct unit numbers. -/
theorem asked_unitsDistinct (s : State) (frame : List Byte) (h : s.unitMap = on.unitMap) : (asked s frame).unitsDistinct := by
  have only : ∀ i : Fin 128, (on.unitMap.set 0 entry)[i].valid = true → i = 0 := by decide +kernel
  have zero : (on.unitMap.set 0 entry)[(0 : Fin 128)].number ≠ 0 := by decide +kernel
  unfold State.unitsDistinct asked
  simp only [h]
  exact ⟨fun i hi => by rw [only i hi]; exact zero, fun i j hi hj _ => (only i hi).trans (only j hj).symm⟩

theorem hyp_StepRunsFrontCommand : on.pending = [] := rfl

theorem hyp_ColdResetHoldsHub :
    State.reset.hub = .held .powerOn ∧
      (∀ c ∈ [Instr.evaluation, .supplyLowChange true, .atnChange 3 true], c ≠ .start) ∧
      ∀ k, Instr.evaluation ≠ .coldReset k ∧ Instr.supplyLowChange true ≠ .coldReset k ∧ Instr.atnChange 3 true ≠ .coldReset k :=
  ⟨rfl, by decide +kernel, fun _ => ⟨nofun, nofun, nofun⟩⟩

theorem hyp_StartSendsReady :
    State.reset.hub = .held .powerOn ∧ ({ State.reset with hub := .held .resetPin, supplyLowPin := true } : State).hub =
      .held .resetPin := by
  decide +kernel

theorem hyp_TimeBaseAdvancesAndWraps :
    on.running = true ∧ ({ on with timeBase := 0xFFFFFFFF } : State).timeBase = 0xFFFFFFFF ∧
      exec .evaluation on = .next (after .evaluation on) ∧ Instr.evaluation ≠ .timeBaseAdvance :=
  ⟨rfl, rfl, rfl, nofun⟩

theorem hyp_SupplyLowIsDebouncedAndTaken :
    (on.running = true ∧ true ≠ on.supplyLowPin ∧ on.budget.debounce ≠ 0) ∧
    (let s : State := { on with supplyTaken := true, budget := { on.budget with debounce := 0 } };
      s.running = true ∧ true ≠ s.supplyLowPin ∧ s.budget.debounce = 0 ∧ true = s.supplyTaken) ∧
    (let s : State := { on with budget := { on.budget with debounce := 0 } };
      s.running = true ∧ true ≠ s.supplyLowPin ∧ s.budget.debounce = 0 ∧ true ≠ s.supplyTaken) ∧
    (let s : State := { on with debounce := some 5 };
      s.running = true ∧ s.debounce = some 5 ∧ s.supplyLowPin = s.supplyTaken) ∧
    (let s : State := { on with debounce := some 5, supplyLowPin := true };
      s.running = true ∧ s.debounce = some 5 ∧ s.supplyLowPin ≠ s.supplyTaken) := by
  decide +kernel

theorem hyp_UnsensedLineIsNotTaken :
    State.reset.running = false ∧ (on.att 3).sensing = false ∧
      ({ on with restart := .waiting 0 0 7 } : State).restarting = true := by
  decide +kernel

theorem hyp_DeactivationFollowsSenseMode :
    ∀ sense ∈ [Sense.edge, .level], ∀ ph ∈ [AttentionPhase.idle, .fetching, .holdoff, .waitingRecord, .waitingAwake],
      let s : State := { sensed { card with sense := sense } (inPhase ph) true with wake := [waits .normal] }
      s.senses 3 = true ∧ s.atnLines[(3 : Slot)] = true ∧ s.claimsSound ∧ (s.profile 3).sense = sense ∧
        (s.att 3).phase = ph ∧ s.wake.Pairwise (fun x y => x.slot ≠ y.slot) := by
  decide +kernel

theorem hyp_ActivationStartsOrCounts :
    (∀ action ∈ [AttentionAction.ignore, .notify, .wakeNotify, .fetch],
      ∀ ph ∈ [AttentionPhase.idle, .fetching, .waitingRecord, .waitingAwake],
        let s := sensed { card with action := action } (inPhase ph) false
        s.senses 3 = true ∧ s.atnLines[(3 : Slot)] = false ∧ s.claimsSound ∧ (s.att 3).phase = ph ∧ ph ≠ .holdoff ∧
          (s.profile 3).action = action ∧ (s.slot 3).state = .awake) ∧
    (∀ k ∈ [95, 96], let s := busy (sensed { card with action := .fetch } AttentionRecord.reset false) k
      s.senses 3 = true ∧ s.claimsSound ∧ s.liveTotal = k) ∧
    (∀ st ∈ [SlotState.slumber, .waking],
      let s := (sensed { card with action := .wakeNotify } AttentionRecord.reset false).updateSlot 3
        (fun r => { r with state := st })
      s.senses 3 = true ∧ s.claimsSound ∧ (s.slot 3).state = st) := by
  decide +kernel

theorem hyp_HoldoffExpiryRepeatsAction :
    (∀ p ∈ [card, { card with sense := .level }, { card with sense := .level, action := .notify },
        { card with sense := .level, action := .wakeNotify }, { card with sense := .level, action := .fetch }],
      let s := sensed p (inPhase .holdoff) true
      s.running = true ∧ (s.att 3).phase = .holdoff ∧ (s.att 3).holdoff = some 10 ∧ s.claimsSound ∧ s.profile 3 = p ∧
        (s.slot 3).state = .awake) ∧
    (let s := (sensed { card with sense := .level, action := .wakeNotify } (inPhase .holdoff) true).updateSlot 3
        (fun r => { r with state := .slumber });
      s.running = true ∧ (s.att 3).phase = .holdoff ∧ (s.att 3).holdoff = some 10 ∧ s.claimsSound ∧
        (s.slot 3).state = .slumber) := by
  decide +kernel

theorem hyp_GoodFrameReachesIngress :
    ∀ k ∈ [7, 8], ∀ rest ∈ [([] : List Byte), List.replicate 40 0xA5],
      let s : State := { on with receiver := .receiving, ingress := List.replicate k [1, 2] }
      (7 : Byte).toNat < 8 ∧ rest.length ≤ 40 ∧ s.running = true ∧ s.receiver = .receiving ∧ s.ingress.length = k := by
  decide +kernel

theorem hyp_BadFrameRaisesLinkCheck :
    (on.running = true ∧ on.receiver = .idle ∧ ({ on with receiver := .receiving } : State).receiver = .receiving) ∧
    (receive [] false [] = .bad false ∧ receive [] false [0x55, 0x00] = .bad false ∧ receive [] false [1, 0xA5] = .bad true ∧
      receive [] false (List.replicate 46 0) = .bad false) ∧
    (∀ body ∈ [([] : List Byte), [1, 2, 0xFF, 0xFF], [1, 2, 3, 0xFF, 0xFF]], receive [] false (body ++ [0x5A]) = .closed body) ∧
    ([1, 2, 0xFF, 0xFF] : List Byte).length < 5 ∧
    (let body : List Byte := [1, 2, 3, 0xFF, 0xFF];
      body.drop (body.length - 2) ≠ word16 (crc16 (body.take (body.length - 2))).toNat) ∧
    (let body : List Byte := [2, 2, 3] ++ word16 (crc16 [2, 2, 3]).toNat;
      receive [] false (body ++ [0x5A]) = .closed body ∧ body.head? ≠ some 0x01) ∧
    (let body : List Byte := [1, 8, 3] ++ word16 (crc16 [1, 8, 3]).toNat;
      receive [] false (body ++ [0x5A]) = .closed body ∧ body[1]? = some 8 ∧ 8 ≤ (8 : Byte).toNat) := by
  decide +kernel

theorem hyp_IngressIsFirstInFirstOut :
    (∀ k ∈ [7, 8],
      let s : State := { on with receiver := .receiving, ingress := List.replicate k [1, 2] }
      let body : List Byte := [1, 7, 3] ++ word16 (crc16 [1, 7, 3]).toNat
      s.running = true ∧ s.receiver = .receiving ∧ receive [] false (body ++ [0x5A]) = .closed body ∧
        requestContents body = some [7, 3] ∧ s.ingress.length = k) ∧
    taken (asked on (mgmt 0x06 [])) .readBudget (mgmt 0x06 []) ∧ exec .evaluation on = .next (after .evaluation on) := by
  refine ⟨?_, ?_, rfl⟩ <;> decide +kernel

theorem hyp_CommonChecksRefuseInOrder :
    (∀ frame ∈ [([0, 7] : List Byte), mgmt 0x10 [], [0, 7, 0, 4, 4]],
      (asked on frame).takeDue me frame [] ∧ takeKindOf frame = none) ∧
    (let frame := mgmt 0x06 [1];
      (asked on frame).takeDue me frame [] ∧ takeKindOf frame = some .readBudget ∧ formOk .readBudget frame = false) ∧
    (let frame := mgmt 0x06 [];
      let s := asked { on with requesters := on.requesters.set 0 RequesterEntry.resetOther } frame;
      s.takeDue me frame [] ∧ takeKindOf frame = some .readBudget ∧ formOk .readBudget frame = true ∧
        (s.requester me.requester).enabled = false) ∧
    (let frame := mgmt 0x06 [];
      let s := asked (on.setQueue 3 [{ job .read .queued with owner := .requester 0, tag := some 7 }]) frame;
      s.takeDue me frame [] ∧ takeKindOf frame = some .readBudget ∧ formOk .readBudget frame = true ∧
        (s.requester me.requester).enabled = true ∧ s.tagInUse me.requester me.tag = true) ∧
    (let frame := mgmt 0x06 [];
      let s := asked { on with requesters := on.requesters.set 0 { RequesterEntry.resetFirst with manage := false } } frame;
      s.takeDue me frame [] ∧ takeKindOf frame = some .readBudget ∧ formOk .readBudget frame = true ∧
        (∀ op, TakeKind.readBudget ≠ .data op) ∧ s.served me ∧ (s.requester me.requester).manage = false) := by
  refine ⟨?_, ?_, ?_, ?_, ?_, ?_, ?_, nofun, ?_, ?_⟩ <;> decide +kernel

/-- The request of the frame `data 0x01 offset []`. -/
def wanted (offset : Nat) : DataRequest := { op := .read, unit := 4, offset := offset, length := 2, lifetime := 0, data := [] }

/-- The premises of a statement about a data request, met by a READ of unit 4. -/
abbrev asksRead (s : State) (offset : Byte) : Prop :=
  let frame := data 0x01 offset []
  s.takeDue me frame [] ∧ takeKindOf frame = some (.data .read) ∧ dataForm .read frame = some (wanted offset.toNat) ∧ s.served me

/-- The state asked for a READ, with one entry in its unit map. -/
def mapped (s : State) (e : UnitEntry) (offset : Byte) : State :=
  { asked s (data 0x01 offset []) with unitMap := on.unitMap.set 0 e }

theorem hyp_AdmissionRefusesInOrder :
    (let s := mapped on UnitEntry.reset 0;
      asksRead s 0 ∧ s.lookup 4 = none) ∧
    (let e := { entry with mask := 0xFE };
      let s := mapped (hubWith .awake) e 0;
      asksRead s 0 ∧ s.lookup 4 = some (0, e) ∧ e.mask.getLsbD me.requester.val = false) ∧
    (let e := { entry with read := false };
      let s := mapped (hubWith .awake) e 0;
      asksRead s 0 ∧ s.lookup 4 = some (0, e) ∧ e.mask.getLsbD me.requester.val = true ∧ e.read = false) ∧
    (let s := mapped (hubWith .awake) entry 7;
      asksRead s 7 ∧ s.lookup 4 = some (0, entry) ∧ entry.read = true ∧ entry.length = 8) ∧
    (let s := mapped on entry 6;
      asksRead s 6 ∧ s.lookup 4 = some (0, entry) ∧ (s.profile 3).power.present = false) ∧
    (let s := mapped (hubWith .faulted) entry 6;
      asksRead s 6 ∧ s.lookup 4 = some (0, entry) ∧ (s.profile 3).power.present = true ∧ (s.slot 3).state = .faulted) ∧
    (let q := (List.range 16).map (fun i => { job .read .queued with owner := .requester 0, tag := some (byteOf (i + 8)) });
      let s := mapped ((hubWith .awake).setQueue 3 q) entry 6;
      asksRead s 6 ∧ s.lookup 4 = some (0, entry) ∧ (s.slot 3).state ≠ .faulted ∧ s.liveCount me.requester = 16 ∧
        (s.requester me.requester).limit = 16) ∧
    (let s := mapped (busy (hubWith .awake) 4) entry 6;
      asksRead s 6 ∧ s.lookup 4 = some (0, entry) ∧ s.liveCount me.requester = 0 ∧ s.requesterRecords 3 = 4 ∧
        (s.profile 3).queueLimit = 4) ∧
    (let s := mapped ((hubWith .awake).setQueue 5 (List.replicate 96 { job .read .queued with slot := 5 })) entry 6;
      asksRead s 6 ∧ s.lookup 4 = some (0, entry) ∧ s.requesterRecords 3 = 0 ∧ s.liveTotal = 96) := by
  refine ⟨?_, ?_, ?_, ?_, ?_, ?_, ?_, ?_, ?_⟩ <;> decide +kernel

theorem hyp_AcceptedRequestBecomesRecord :
    (∀ st ∈ [SlotState.off, .powering, .slumber, .waking, .awake, .settling],
      let s := asked (hubWith st) (data 0x01 6 [])
      asksRead s 6 ∧ s.admits me (wanted 6) entry ∧ s.claimsSound ∧ (s.slot 3).state = st) ∧
    (∀ d ∈ [none, some { cause := .idle, target := .slumber }, some { cause := .shed, target := .off }],
      let s := asked (hubBut .draining (fun r => { r with drain := d })) (data 0x01 6 [])
      asksRead s 6 ∧ s.admits me (wanted 6) entry ∧ s.claimsSound ∧ (s.slot 3).state = .draining ∧ (s.slot 3).drain = d) ∧
    (∀ op ∈ [DataOp.write, .writePosted],
      let frame := data (if op = .write then 0x02 else 0x03) 0 [8, 9]
      let q : DataRequest := { wanted 0 with op := op, data := [8, 9] }
      let s := asked (hubWith .awake) frame
      s.takeDue me frame [] ∧ takeKindOf frame = some (.data op) ∧ dataForm op frame = some q ∧ s.served me ∧
        s.admits me q entry ∧ s.claimsSound) ∧
    (let s := { asked (busy (hubWith .awake) 3) (data 0x01 6 []) with
        queues := (busy (hubWith .awake) 3).queues.set 5 (List.replicate 92 { job .read .queued with slot := 5 }) };
      asksRead s 6 ∧ s.admits me (wanted 6) entry ∧ s.claimsSound ∧ s.liveTotal = 95) := by
  refine ⟨?_, ?_, ?_, ?_⟩ <;> decide +kernel

theorem hyp_ReadEntryReturnsLayout :
    ∀ x ∈ [(Table.unit, (1 : Byte), (127 : Byte)), (.unit, 1, 128), (.profile, 2, 23), (.profile, 2, 24), (.requester, 3, 7),
        (.requester, 3, 8), (.chain, 4, 0), (.chain, 4, 1), (.budget, 5, 0), (.budget, 5, 1)],
      let frame := mgmt 0x01 [x.2.1, x.2.2]
      taken (asked on frame) .readEntry frame ∧ readEntryArguments frame = some (x.1, x.2.2.toNat) := by
  decide +kernel

/-- The frame of a WRITE ENTRY. -/
def writeFrame (table index : Byte) (bytes : List Byte) : List Byte := mgmt 0x02 ([table, index] ++ bytes)

theorem hyp_WriteUnitEntryChecksAndStores :
    (∀ x ∈ [((128 : Byte), layUnitEntry entry), (127, layUnitEntry entry), (0, layUnitEntry entry),
        (127, layUnitEntry UnitEntry.reset), (127, 0x20 :: (layUnitEntry entry).tail)],
      let frame := writeFrame 1 x.1 x.2
      taken (asked on frame) .writeUnit frame ∧ writeEntryArguments .unit frame = some (x.1.toNat, x.2)) ∧
    readUnitEntry (layUnitEntry entry) = some entry ∧ readUnitEntry (0x20 :: (layUnitEntry entry).tail) = none ∧
    (readUnitEntry (layUnitEntry UnitEntry.reset) = some UnitEntry.reset ∧ UnitEntry.reset.valid = false) ∧
    (let s := asked on (writeFrame 1 127 (layUnitEntry entry));
      entry.valid = true ∧ ∃ j : Fin 128, j.val ≠ 127 ∧ s.unitMap[j].valid = true ∧ s.unitMap[j].number = entry.number) ∧
    (let s := asked on (writeFrame 1 0 (layUnitEntry entry));
      ¬ (entry.valid = true ∧ ∃ j : Fin 128, j.val ≠ 0 ∧ s.unitMap[j].valid = true ∧ s.unitMap[j].number = entry.number)) := by
  decide +kernel

theorem hyp_WriteRequesterEntryChecksAndStores :
    (∀ x ∈ [((8 : Byte), ([1, 4] : List Byte)), (7, [1, 33]), (7, [1, 32]), (1, [1, 2]), (1, [1, 3]), (1, [1, 0])],
      let frame := writeFrame 3 x.1 x.2
      taken (asked (busy on 3) frame) .writeRequester frame ∧ writeEntryArguments .requester frame = some (x.1.toNat, x.2)) ∧
    readRequesterEntry [1, 33] = none ∧
    (readRequesterEntry [1, 2]).map (·.limit) = some 2 ∧ (readRequesterEntry [1, 3]).map (·.limit) = some 3 ∧
    (readRequesterEntry [1, 0]).map (·.limit) = some 0 ∧ (busy on 3).liveCount 1 = 3 ∧ ((busy on 3).requester 1).limit = 0 := by
  decide +kernel

theorem hyp_WriteProfileChecksAndStores :
    let heavier : Profile := { card with power := { card.power with awake := 11 } }
    let longer : Profile := { card with idleHold := 7 }
    let never : Profile := { card with idleHold := 0 }
    (∀ x ∈ [((24 : Byte), layProfile card), (3, 0x20 :: (layProfile card).tail), (23, layProfile card), (3, layProfile heavier),
        (3, layProfile longer), (3, layProfile never)],
      let frame := writeFrame 2 x.1 x.2
      taken (asked (hubWith .awake) frame) .writeProfile frame ∧ writeEntryArguments .profile frame = some (x.1.toNat, x.2)) ∧
    readProfile (0x20 :: (layProfile card).tail) = none ∧
    (∀ p ∈ [card, heavier, longer, never], readProfile (layProfile p) = some p) ∧
    (let s := hubWith .awake;
      heavier.power ≠ (s.profile 3).power ∧ (s.slot 3).state = .awake ∧ longer.power = (s.profile 3).power ∧
        longer.idleHold ≠ (s.profile 3).idleHold ∧ never.idleHold ≠ (s.profile 3).idleHold ∧ (s.slot 3).pin = false ∧
        s.queue 3 = [] ∧ s.inFlight 3 = false ∧ s.restarting = false ∧ longer.idleHold ≠ 0) ∧
    (let s := { hubWith .off with wake := [waits .normal] };
      heavier.power ≠ (s.profile 3).power ∧ (s.slot 3).state = .off ∧ s.queue 3 = [] ∧ s.listed 3 = true ∧ s.sheds = false) := by
  decide +kernel

theorem hyp_WriteChainSettingsChecksAndStores :
    (∀ x ∈ [((1 : Byte), ([1, 0, 3, 1, 1] : List Byte)), (0, [1, 0, 4, 1, 1]), (0, [0, 50, 3, 15, 20])],
      let frame := writeFrame 4 x.1 x.2
      taken (asked on frame) .writeChain frame ∧ writeEntryArguments .chain frame = some (x.1.toNat, x.2)) ∧
    readChainSettings [1, 0, 4, 1, 1] = none ∧
    readChainSettings [0, 50, 3, 15, 20] =
      some { responseTimeout := 50, retryLimit := 3, faultThreshold := 15, pollInterval := 20 } := by
  decide +kernel

theorem hyp_WriteBudgetSettingsActsAtOnce :
    (∀ x ∈ [((1 : Byte), ([3, 255, 0, 0, 7, 100, 2] : List Byte)), (0, [4, 0, 0, 0, 7, 100, 2]), (0, [3, 255, 0, 0, 7, 100, 2])],
      let frame := writeFrame 5 x.1 x.2
      taken (asked on frame) .writeBudget frame ∧ writeEntryArguments .budget frame = some (x.1.toNat, x.2)) ∧
    readBudgetSettings [4, 0, 0, 0, 7, 100, 2] = none ∧
    readBudgetSettings [3, 255, 0, 0, 7, 100, 2] =
      some { normalLimit := 1023, reducedLimit := 0, bypassAllowance := 7, debounce := 100, gate := .held } := by
  decide +kernel

theorem hyp_EntryLayoutsRoundTrip :
    (unitInRange entry = true ∧ unitInRange { entry with base := 0, length := 65536 } = true ∧
      readUnitEntry (layUnitEntry entry) = some entry) ∧
    (readRequesterEntry [7, 32] = some { enabled := true, manage := true, limit := 32, ceiling := .urgent }) ∧
    (profileInRange card = true ∧ readProfile (layProfile card) = some card) ∧
    (chainInRange ChainSettings.reset = true ∧ readChainSettings (layChainSettings .reset) = some .reset) ∧
    (budgetInRange BudgetSettings.reset = true ∧ readBudgetSettings (layBudgetSettings .reset) = some .reset) := by
  decide +kernel

theorem hyp_FindUnitReturnsIndex :
    (∀ u ∈ [(0 : Byte), 4, 5],
      let frame := mgmt 0x03 [0, u]
      taken (asked on frame) .findUnit frame ∧ unitArgument frame = some u.toNat) ∧
    (let s := asked on (mgmt 0x03 [0, 4]);
      s.unitMap[(0 : Fin 128)].valid = true ∧ s.unitMap[(0 : Fin 128)].number = 4) ∧
    (let s := asked on (mgmt 0x03 [0, 5]);
      ∀ i : Fin 128, s.unitMap[i].valid = true → s.unitMap[i].number ≠ 5) ∧
    (∀ u : Byte, (asked on (mgmt 0x03 [0, u])).unitsDistinct) := by
  refine ⟨?_, ?_, ?_, fun u => asked_unitsDistinct on _ rfl⟩ <;> decide +kernel

theorem hyp_ReadSlotReportsSlot :
    (∀ b ∈ [(23 : Byte), 24],
      let frame := mgmt 0x04 [b]
      taken (asked on frame) .readSlot frame ∧ oneArgument 0x04 frame = some b) ∧ (23 : Byte).toNat = (23 : Slot).val := by
  decide +kernel

theorem hyp_ReadQueueListsRecords :
    (∀ b ∈ [(3 : Byte), 23, 24],
      let frame := mgmt 0x05 [b]
      taken (asked (busy on 2) frame) .readQueue frame ∧ oneArgument 0x05 frame = some b) ∧ (3 : Byte).toNat = (3 : Slot).val ∧
    (busy on 2).queue 3 ≠ [] ∧ ∀ r ∈ (busy on 2).queue 3, r.state ≠ .done := by
  decide +kernel

theorem hyp_ReadBudgetListsArbiterOrder :
    taken (asked on (mgmt 0x06 [])) .readBudget (mgmt 0x06 []) ∧ noArguments 0x06 (mgmt 0x06 []) = some () := by
  decide +kernel

theorem hyp_SlotWakeGivesManagedReason :
    (∀ n l : Byte, wakeArguments (mgmt 0x07 [n, l]) = some (n, l)) ∧
    taken (asked on (mgmt 0x07 [23, 0])) .slotWake (mgmt 0x07 [23, 0]) ∧
    taken (asked on (mgmt 0x07 [24, 0])) .slotWake (mgmt 0x07 [24, 0]) ∧
    taken (asked on (mgmt 0x07 [3, 2])) .slotWake (mgmt 0x07 [3, 2]) ∧ (on.profile 3).power.present = false ∧
    ∀ st : SlotState,
      let s := asked (hubWith st) (mgmt 0x07 [3, 1])
      taken s .slotWake (mgmt 0x07 [3, 1]) ∧ (s.profile 3).power.present = true ∧ (s.slot 3).state = st := by
  refine ⟨fun n l => by simp [wakeArguments, argumentsOf, mgmt, readWord16], by decide +kernel, by decide +kernel,
    by decide +kernel, by decide +kernel, ?_⟩
  intro st
  cases st <;> decide +kernel

theorem hyp_SlotRestDrainsIdleSlot :
    (∀ b ∈ [(3 : Byte), 23, 24],
      let frame := mgmt 0x08 [b]
      taken (asked (hubWith .awake) frame) .slotRest frame ∧ oneArgument 0x08 frame = some b ∧
        (asked (hubWith .awake) frame).claimsSound) ∧
    ((hubWith .off).slot 3).state ≠ .awake ∧
    (let s := busy (hubWith .awake) 1;
      (s.slot 3).state = .awake ∧ s.queue 3 ≠ []) ∧
    (let s := hubWith .awake;
      (s.slot 3).state = .awake ∧ s.queue 3 = [] ∧ s.inFlight 3 = false ∧ s.stopped = false) := by
  decide +kernel

theorem hyp_SlotOffAbandonsAndSwitchesOff :
    (let frame := mgmt 0x09 [24];
      taken (asked on frame) .slotOff frame ∧ oneArgument 0x09 frame = some 24) ∧
    (∀ st ∈ [SlotState.off, .powering, .slumber, .waking, .awake, .draining, .settling, .faulted],
      ∀ e ∈ [none, some (talk .identify .awaiting)],
        let frame := mgmt 0x09 [3]
        let s : State := { asked ((hubWith st).setQueue 3 [job .read .queued]) frame with exchange := e }
        taken s .slotOff frame ∧ oneArgument 0x09 frame = some 3 ∧ s.claims = [] ∧ s.queuesSound ∧ s.dispatchesSound ∧
          (s.slot 3).state = st ∧ s.inFlight 3 = e.isSome) ∧
    (∀ st ∈ [SlotState.awake, .draining],
      let frame := mgmt 0x09 [3]
      let s : State := { asked ((hubWith st).setQueue 3 [job .read .dispatched, job .write .queued]) frame with
        exchange := some (talk .read .awaiting) }
      taken s .slotOff frame ∧ oneArgument 0x09 frame = some 3 ∧ s.claims = [] ∧ s.queuesSound ∧ s.dispatchesSound) ∧
    (let frame := mgmt 0x09 [3]
     let d : Drain := { cause := .shed, target := .off }
     let s : State := { asked (hubBut .draining (fun r => { r with drain := some d })) frame with
        exchange := some (talk .read .awaiting), shedding := { active := some .supplyLow, victims := 1 } }
     taken s .slotOff frame ∧ oneArgument 0x09 frame = some 3 ∧ s.claims = [] ∧ s.queuesSound ∧ (s.slot 3).drain = some d ∧
       s.restarting = false ∧ (after .slotOff s).sheds = true) ∧
    (let d : Drain := { cause := .shed, target := .off }
     let s : State := asked (hubBut .draining (fun r => { r with drain := some d })) (mgmt 0x09 [3])
     s.dispatchesSound) := by
  refine ⟨?_, ?_, ?_, ?_, ?_⟩ <;> decide +kernel

theorem hyp_PinFlagActsByState :
    (let frame := mgmt 0x0A [24];
      taken (asked on frame) .pin frame ∧ oneArgument 0x0A frame = some 24) ∧
    (let frame := mgmt 0x0B [24];
      taken (asked on frame) .unpin frame ∧ oneArgument 0x0B frame = some 24) ∧
    ∀ (held : Bool) (st : SlotState),
      let frame := fun (code : Byte) => mgmt code [3]
      let s := fun (code : Byte) => asked (hubBut st (fun r => { r with pin := held })) (frame code)
      taken (s 0x0A) .pin (frame 0x0A) ∧ oneArgument 0x0A (frame 0x0A) = some 3 ∧ (s 0x0A).claimsSound ∧
        ((s 0x0A).slot 3).pin = held ∧ ((s 0x0A).slot 3).state = st ∧ taken (s 0x0B) .unpin (frame 0x0B) ∧
        oneArgument 0x0B (frame 0x0B) = some 3 ∧ (s 0x0B).claimsSound ∧ ((s 0x0B).slot 3).pin = held ∧
        ((s 0x0B).slot 3).state = st := by
  refine ⟨by decide +kernel, by decide +kernel, ?_⟩
  intro held st
  cases held <;> cases st <;> decide +kernel

theorem hyp_SlotClearReturnsToOff :
    (∀ b ∈ [(3 : Byte), 24],
      let frame := mgmt 0x0C [b]
      taken (asked (hubWith .faulted) frame) .slotClear frame ∧ oneArgument 0x0C frame = some b ∧
        (asked (hubWith .faulted) frame).claimsSound) ∧
    ((hubWith .awake).slot 3).state ≠ .faulted ∧ ((hubWith .faulted).slot 3).state = .faulted ∧
    ∀ pin listed : Bool,
      let s : State := { hubBut .faulted (fun r => { r with pin := pin }) with wake := if listed then [waits .normal] else [] }
      taken (asked s (mgmt 0x0C [3])) .slotClear (mgmt 0x0C [3]) ∧ (asked s (mgmt 0x0C [3])).claimsSound ∧
        (s.slot 3).state = .faulted ∧ (s.slot 3).pin = pin ∧ s.listed 3 = listed := by
  refine ⟨by decide +kernel, by decide +kernel, by decide +kernel, ?_⟩
  intro pin listed
  cases pin <;> cases listed <;> decide +kernel

/-- Expected from R23, R34 and R35: a cleared slot with its pin flag set stands in the wake list with reason PIN at level 1. -/
theorem test_slotClear_pinned :
    (after .slotClear (asked (hubBut .faulted (fun r => { r with pin := true })) (mgmt 0x0C [3]))).wake =
      [{ slot := 3, join := 0, level := .urgent, reasons := ReasonSet.none.add .pin, passed := 0 }] := by
  decide +kernel

/-- A latched fault of slot 3. -/
def faulty : LatchedFault := { kind := .typeMismatch, slot := 3, stamp := 9, requesterTag := none }

/-- The hub with that fault latched. -/
def hubFault : State := { on with fault := { latched := some faulty, serial := 1, overflow := 0 } }

theorem hyp_ReadFaultReportsRecord :
    ∀ s ∈ [on, hubFault],
      let frame := mgmt 0x0D []
      taken (asked s frame) .readFault frame ∧ noArguments 0x0D frame = some () ∧
        s.fault.latched = (if s = on then none else some faulty) := by
  decide +kernel

theorem hyp_ClearFaultGoesBySerial :
    (∀ x ∈ [((0 : Byte), on), (1, on), (1, hubFault), (0, hubFault)],
      let frame := mgmt 0x0E [x.1]
      taken (asked x.2 frame) .clearFault frame ∧ oneArgument 0x0E frame = some x.1) ∧
    (0 = on.fault.serial ∧ on.fault.latched = none) ∧ (1 = hubFault.fault.serial ∧ hubFault.fault.latched ≠ none) := by
  decide +kernel

theorem hyp_RestartStopsTheHub :
    taken (asked (hubWith .awake) (mgmt 0x0F [])) .restart (mgmt 0x0F []) ∧ noArguments 0x0F (mgmt 0x0F []) = some () := by
  decide +kernel

theorem hyp_RestartCompletionClearsTheHub :
    let s : State := { busy (hubWith .awake) 2 with restart := .waiting 0 0 7, taking := false, stopped := true }
    s.running = true ∧ s.restart = .waiting 0 0 7 ∧ s.exchange = none ∧ s.noticesInTransmission ≤ s.notices.length := by
  decide +kernel

/-- The hub with slot 3 waiting to be granted, under a limit. -/
def granting (st : SlotState) (limit : Nat) : State :=
  { hubWith st with
    wake := [waits .normal], evaluationDue := true, budget := { on.budget with normalLimit := limit } }

/-- The profile `card` with a rest mode. -/
def resting (mode : RestMode) : Profile := { card with power := { card.power with restMode := mode } }

/-- Slot 5 of weights 10 and 2, with a state and a drain. -/
def withIdle (s : State) (st : SlotState) (d : Option Drain) : State :=
  { s with
    profiles := s.profiles.set 5 card
    slots := s.slots.set 5 { SlotRecord.reset with
      state := st, sen := true, grantedAwake := 10, grantedStandby := 2, drain := d }
    committed := s.committed + 10
    useOrder := s.useOrder ++ [5] }

theorem granting_grantsSound :
    ∀ s ∈ [granting .off 10, granting .off 9, granting .slumber 10, granting .slumber 9], s.grantsSound := by decide +kernel

/-- Two slots that wait: slot 3 needs 10, and slot 5 needs 4. -/
def twoWait (limit : Nat) : State :=
  { granting .off limit with
    profiles := (granting .off limit).profiles.set 5 { card with power := { card.power with awake := 4 } }
    wake := [waits .normal, { waits .normal with slot := 5, join := 1 }] }

/-- The eligible entries in arbiter order, as the statements write it. -/
abbrev waiting (s : State) : List WakeEntry :=
  (s.wake.filter (fun x => x.level == .urgent) ++ s.wake.filter (fun x => x.level == .normal)).filter s.eligible

theorem hyp_EvaluationGrantsTheHead :
    (∀ s ∈ [granting .off 10, granting .slumber 10, granting .off 9, granting .slumber 9],
      s.running = true ∧ s.evaluationDue = true ∧ s.sheds = false ∧ s.restarting = false ∧ s.stopped = false ∧ s.claimsSound ∧
        waiting s = waits .normal :: [] ∧ (s.slot 3).state.resting = true) ∧
    ((granting .off 10).committed + 10 ≤ (granting .off 10).effectiveLimit) ∧
    ((granting .slumber 10).committed + (10 - 2) ≤ (granting .slumber 10).effectiveLimit) ∧
    (let s : State := { granting .off 9 with evictionSet := [5] };
      s.effectiveLimit < s.committed + 10 ∧ s.evictionSet ≠ [] ∧ waiting s = waits .normal :: [] ∧ s.claimsSound) ∧
    (let s := twoWait 14;
      s.running = true ∧ s.evaluationDue = true ∧ s.sheds = false ∧ s.restarting = false ∧ s.stopped = false ∧ s.claimsSound ∧
        s.grantsSound ∧ waiting s = waits .normal :: [{ waits .normal with slot := 5, join := 1 }] ∧
        (s.slot 3).state.resting = true ∧ s.committed + 10 ≤ s.effectiveLimit) ∧
    (let s : State := { twoWait 14 with wake := [waits .normal, { waits .urgent with slot := 5, join := 1 }] };
      waiting s = { waits .urgent with slot := 5, join := 1 } :: [waits .normal] ∧ s.grantsSound ∧
        s.committed + 4 ≤ s.effectiveLimit) := by
  decide +kernel

/-- Two entries that both fit are both granted in the one evaluation (R42). -/
theorem test_evaluation_grants_both :
    let t := after .evaluation (twoWait 14)
    t.committed = 14 ∧ t.wake = [] ∧ (t.slot 3).state = .powering ∧ (t.slot 5).state = .powering := by decide +kernel

theorem hyp_EvictionTakesShortestPrefix :
    (∀ x ∈ [(SlotState.awake, none), (.draining, some { cause := .idle, target := .slumber })],
      let s := withIdle (granting .off 12) x.1 x.2
      s.running = true ∧ s.evaluationDue = true ∧ s.sheds = false ∧ s.restarting = false ∧ s.claimsSound ∧ s.useOrder.Nodup ∧
        s.evictionSet = [] ∧
        (s.wake.filter (fun e => e.level == .urgent) ++ s.wake.filter (fun e => e.level == .normal)).find? s.eligible =
          some (waits .normal) ∧
        s.effectiveLimit < s.committed + 10 ∧ s.useOrder.filter s.candidate = [5] ++ [] ∧
        s.projected + 10 ≤ s.effectiveLimit + (10 - 2) ∧ ¬ s.projected + 10 ≤ s.effectiveLimit + 0 ∧
        (s.slot 5).state = x.1 ∧ (s.slot 5).drain = x.2 ∧ (s.profile 5).power.restMode = .slumber) ∧
    (let s : State := { withIdle (granting .off 12) .awake none with
        profiles := (withIdle (granting .off 12) .awake none).profiles.set 5 (resting .off) };
      s.running = true ∧ s.evaluationDue = true ∧ s.sheds = false ∧ s.restarting = false ∧ s.claimsSound ∧ s.useOrder.Nodup ∧
        s.evictionSet = [] ∧
        (s.wake.filter (fun e => e.level == .urgent) ++ s.wake.filter (fun e => e.level == .normal)).find? s.eligible =
          some (waits .normal) ∧
        s.effectiveLimit < s.committed + 10 ∧ s.useOrder.filter s.candidate = [5] ++ [] ∧
        s.projected + 10 ≤ s.effectiveLimit + 10 ∧ ¬ s.projected + 10 ≤ s.effectiveLimit + 0 ∧
        (s.slot 5).state = .awake ∧ (s.slot 5).drain = none ∧ (s.profile 5).power.restMode = .off ∧
        (after .evaluation s).evictionSet = [] ∧ (after .evaluation s).evaluationDue = true) ∧
    (let s : State := { withIdle (granting .off 11) .awake none with wake := [{ waits .normal with passed := 2 }] };
      s.running = true ∧ s.evaluationDue = true ∧ s.evictionSet = [] ∧ s.useOrder.Nodup ∧
        (s.wake.filter (fun e => e.level == .urgent) ++ s.wake.filter (fun e => e.level == .normal)).find? s.eligible =
          some { waits .normal with passed := 2 } ∧
        s.effectiveLimit < s.committed + 10 ∧ ¬ s.projected + 10 ≤ s.effectiveLimit + (10 - 2) ∧
        s.budget.bypassAllowance ≤ 2) := by
  decide +kernel

theorem hyp_BypassGrantPassesTheHead :
    (∀ k ∈ [4, 3],
      let s := twoWait k
      let e : WakeEntry := { waits .normal with slot := 5, join := 1 }
      s.running = true ∧ s.evaluationDue = true ∧ s.sheds = false ∧ s.restarting = false ∧ s.claimsSound ∧ s.grantsSound ∧
        s.evictionSet = [] ∧ s.wake.Pairwise (fun x y => x.slot ≠ y.slot) ∧
        (s.wake.filter (fun x => x.level == .urgent) ++ s.wake.filter (fun x => x.level == .normal)).filter s.eligible =
          [waits .normal, e] ∧
        (s.slot 5).state.resting = true ∧ s.effectiveLimit < s.committed + s.increment 3 ∧
        s.effectiveLimit + ((s.useOrder.filter s.candidate).map s.candidateRelease).sum < s.projected + s.increment 3 ∧
        (waits .normal).passed < s.budget.bypassAllowance) ∧
    (twoWait 4).committed + (twoWait 4).increment 5 ≤ (twoWait 4).effectiveLimit ∧
    (twoWait 3).effectiveLimit < (twoWait 3).committed + (twoWait 3).increment 5 := by
  decide +kernel

theorem hyp_CommittedRisesOnlyWithinTheLimit :
    exec .evaluation (granting .off 10) = .next (after .evaluation (granting .off 10)) ∧
      (granting .off 10).committed < (after .evaluation (granting .off 10)).committed :=
  ⟨rfl, by decide +kernel⟩

/-- Shedding with a pass due: slot 3 in a state, under a limit. -/
def passing (s : State) (limit : Nat) : State :=
  { s with
    shedding := { active := some .limitWrite, victims := 0 }, passDue := true,
    budget := { on.budget with normalLimit := limit } }

/-- What a victim clause of the statement about the selection pass asks for beside the victim's own state. -/
abbrev passes (s : State) : Prop :=
  s.running = true ∧ s.passDue = true ∧ s.sheds = true ∧ s.restarting = false ∧ s.claimsSound ∧ s.effectiveLimit < s.projected

/-- The slots that a stage of victim order takes from the use-order list, or by number; none of them pinned. -/
abbrev stageInUse (s : State) (p : Slot → Bool) : List Slot := s.useOrder.filter (fun n => (s.slot n).pin == false && p n)
abbrev stageNumbered (s : State) (p : Slot → Bool) : List Slot := allSlots.filter (fun n => (s.slot n).pin == false && p n)

/-- The state after the first selection, of slot 3. -/
abbrev selected (s : State) : State :=
  { s.shedSlot 3 with shedding := { s.shedding with victims := min 255 (s.shedding.victims + 1) } }

theorem hyp_SelectionPassTakesFirstVictim :
    (let s := passing (hubWith .awake) 10;
      s.passDue = true ∧ s.sheds = true ∧ s.projected ≤ s.effectiveLimit) ∧
    (let s := passing (hubBut .draining (fun r => { r with drain := some { cause := .idle, target := .slumber } })) 2;
      passes s ∧ stageInUse s (fun n => s.idleSlot n && (s.slot n).idleDraining) = [3] ∧
        (s.slot 3).state = .draining ∧ (s.slot 3).drain = some { cause := .idle, target := .slumber } ∧
        (selected s).effectiveLimit < (selected s).committed) ∧
    (let s := passing (hubWith .awake) 2;
      passes s ∧ stageInUse s (fun n => s.idleSlot n && (s.slot n).idleDraining) = [] ∧
        stageInUse s (fun n => s.idleSlot n && (s.slot n).state == .awake) = [3] ∧
        (s.slot 3).state = .awake ∧ (s.profile 3).power.restMode = .slumber ∧ s.inFlight 3 = false) ∧
    (let s : State := { passing (hubWith .awake) 2 with
        profiles := on.profiles.set 3 (resting .off), exchange := some (talk .read .awaiting) };
      passes s ∧ stageInUse s (fun n => s.idleSlot n && (s.slot n).idleDraining) = [] ∧
        stageInUse s (fun n => s.idleSlot n && (s.slot n).state == .awake) = [] ∧
        stageInUse s (fun n => !s.idleSlot n && (s.slot n).state == .awake) = [3] ∧
        (s.slot 3).state = .awake ∧ (s.profile 3).power.restMode = .off ∧ s.inFlight 3 = true) ∧
    (let s : State := { passing (hubWith .awake) 2 with profiles := on.profiles.set 3 (resting .off) };
      passes s ∧ stageInUse s (fun n => s.idleSlot n && (s.slot n).idleDraining) = [] ∧
        stageInUse s (fun n => s.idleSlot n && (s.slot n).state == .awake) = [3] ∧
        (s.slot 3).state = .awake ∧ (s.profile 3).power.restMode = .off ∧ s.inFlight 3 = false ∧
        (selected s).committed ≤ (selected s).effectiveLimit) ∧
    (let s : State := { passing (hubWith .powering) 0 with exchange := some (talk .identify .awaiting) };
      passes s ∧ s.useOrder = [] ∧
        stageNumbered s (fun n => (s.slot n).state.comingUp && (s.slot n).switchOff.isNone) = [3] ∧
        (s.slot 3).state.comingUp = true ∧ s.inFlight 3 = true) ∧
    (∀ st ∈ [SlotState.powering, .waking],
      let s := passing (hubWith st) 0
      passes s ∧ s.useOrder = [] ∧
        stageNumbered s (fun n => (s.slot n).state.comingUp && (s.slot n).switchOff.isNone) = [3] ∧
        (s.slot 3).state.comingUp = true ∧ s.inFlight 3 = false ∧ (selected s).committed ≤ (selected s).effectiveLimit) ∧
    (let s := passing (hubWith .slumber) 0;
      passes s ∧ s.useOrder = [] ∧
        stageNumbered s (fun n => (s.slot n).state.comingUp && (s.slot n).switchOff.isNone) = [] ∧
        stageNumbered s (fun n => (s.slot n).state == .slumber) = [3] ∧
        (s.slot 3).state = .slumber ∧ (selected s).committed ≤ (selected s).effectiveLimit) ∧
    (let s := passing (withIdle (hubWith .awake) .awake none) 4;
      passes s ∧ stageInUse s (fun n => s.idleSlot n && (s.slot n).idleDraining) = [] ∧
        stageInUse s (fun n => s.idleSlot n && (s.slot n).state == .awake) = 3 :: [5] ∧ (s.slot 3).state = .awake ∧
        (selected s).effectiveLimit < (selected s).committed ∧ (selected s).effectiveLimit < (selected s).projected) := by
  refine ⟨?_, ?_, ?_, ?_, ?_, ?_, ?_, ?_, ?_⟩ <;> decide +kernel

/-- A pass takes a second victim where the first does not make projected weight fit (R56). -/
theorem test_pass_takes_two_victims :
    let t := after .selectionPass (passing (withIdle (hubWith .awake) .awake none) 4)
    (t.slot 3).state = .draining ∧ (t.slot 5).state = .draining ∧ t.shedding.victims = 2 := by decide +kernel

theorem hyp_ComingUpCountdownsExpire :
    (∀ st ∈ [SlotState.powering, .waking],
      let s := hubBut st (fun r => { r with step := some { purpose := .powerUpDelay, ms := 499 }, limit := some 500 })
      s.running = true ∧ (s.slot 3).state.comingUp = true ∧ s.queuesSound ∧
        (s.slot 3).step = some { purpose := .powerUpDelay, ms := 499 } ∧ (s.slot 3).limit = some 500 ∧ s.stopped = false ∧
        s.claimsSound ∧ s.inFlight 3 = false ∧ s.claims = []) ∧
    (let s : State := { hubBut .waking (fun r => { r with limit := some 20 }) with exchange := some (talk .identify .awaiting) };
      (s.slot 3).state.comingUp = true ∧ (s.slot 3).limit = some 20 ∧ s.inFlight 3 = true ∧ s.claimsSound) := by
  decide +kernel

theorem hyp_IdleHoldStartsIdleDrain :
    ∀ rest ∈ [RestMode.slumber, .off],
      let s : State := { hubBut .awake (fun r => { r with step := some { purpose := .idleHold, ms := 100 } }) with
        profiles := on.profiles.set 3 { card with power := { card.power with restMode := rest } } }
      s.running = true ∧ (s.slot 3).state = .awake ∧ (s.slot 3).step = some { purpose := .idleHold, ms := 100 } ∧
        s.inFlight 3 = false ∧ s.claimsSound ∧ (s.profile 3).power.restMode = rest ∧ s.stopped = false ∧
        s.candidate 3 = true := by
  decide +kernel

/-- The idle-hold expiry of an eviction candidate makes an evaluation due (R44, log entry 26). -/
theorem test_idle_hold_makes_evaluation_due :
    let s : State := { hubBut .awake (fun r => { r with step := some { purpose := .idleHold, ms := 100 } }) with
      profiles := on.profiles.set 3 { card with power := { card.power with restMode := .slumber } }, evaluationDue := false }
    ∃ t, exec (.idleHoldExpiry 3) s = .next t ∧ t.evaluationDue = true :=
  ⟨_, rfl, by decide +kernel⟩

/-- Slot 3 AWAKE or at rest, with one queued record whose lifetime runs, and `k` records more. -/
def living (st : SlotState) (op : DataOp) (k : Nat) : State :=
  (hubWith st).setQueue 3 ({ job op .queued with deadline := some 50 } ::
    List.replicate k { job .read .queued with tag := some 11 })

theorem hyp_LifetimeExpiryCompletesRecord :
    (∀ st ∈ [SlotState.awake, .off, .slumber], ∀ op ∈ [DataOp.read, .write, .writePosted], ∀ k ∈ [0, 1],
      let s : State := { living st op k with wake := [waits .normal] }
      let x : Record := { job op .queued with deadline := some 50 }
      s.running = true ∧ s.claims = [] ∧
        s.queue 3 = [] ++ x :: List.replicate k { job .read .queued with tag := some 11 } ∧ x.owner = .requester 1 ∧
        x.tag = some 9 ∧ x.state = .queued ∧ x.deadline = some 50 ∧ x.slot = 3 ∧ (s.slot 3).state = st ∧
        s.wakeEntry 3 = some (waits .normal) ∧ (waits .normal).reasons.drop .work = ReasonSet.none) ∧
    (living .awake .read 0).tagsDistinct ∧ (living .awake .writePosted 1).tagsDistinct := by
  refine ⟨by decide +kernel, ?_, ?_⟩ <;> unfold State.tagsDistinct <;> decide +kernel

theorem hyp_ChainSelectionStartsExchange :
    (∀ x ∈ [(SlotState.powering, ChainCommand.identify), (.draining, .slumber)],
      let s : State := { hubWith x.1 with control := [{ slot := 3, command := x.2 }] }
      s.running = true ∧ s.exchange = none ∧ s.stopped = false ∧ s.claimsSound ∧ s.control = [{ slot := 3, command := x.2 }] ∧
        (s.slot 3).state = x.1) ∧
    (let s := (hubWith .awake).setQueue 3 [job .read .queued];
      s.control = [] ∧ (s.slot 3).state = .awake ∧ s.queue 3 = [job .read .queued] ∧ (job .read .queued).state = .queued ∧
        ∀ m, (s.slot m).state = .awake → m = 3) ∧
    ((hubWith .awake).control = [] ∧ ∀ m, ((hubWith .awake).queue m) = []) ∧
    (exec .evaluation on = .next (after .evaluation on) ∧ Instr.evaluation ≠ .chainSelection) := by
  refine ⟨?_, ?_, ?_, rfl, nofun⟩ <;> decide +kernel

theorem hyp_AttemptPassesThroughPhases :
    ∀ ph ∈ [AttemptPhase.sending, .awaiting, .receiving],
      let s := talking on (talk .read ph)
      s.running = true ∧ s.exchange = some (talk .read ph) ∧ (talk .read ph).phase = ph := by
  decide +kernel

theorem hyp_ReplyIsJudged :
    (List.replicate 32 (7 : Byte)).length ≤ 32 ∧
      (∀ bytes ∈ [([] : List Byte), [3, 0, 33]], bytes.length < 4) ∧
      (∀ (status : Byte) (data : List Byte), data.length ≤ 32 →
        let fields := BitVec.ofNat 8 3 :: status :: BitVec.ofNat 8 data.length :: data
        ([3, 0, 33] : List Byte) ≠ fields ++ [crc8 fields]) := by
  refine ⟨by decide +kernel, by decide +kernel, ?_⟩
  intro status data _ fields h
  have := congrArg List.length h
  simp [fields] at this

/-- The exchange of slot 3 whose attempt ends at a timeout. -/
abbrev silent (command : ChainCommand) (attempt : Nat) : Exchange := { talk command .awaiting with attempt := attempt }

theorem silent_ends (s : State) (command : ChainCommand) (attempt : Nat) (h : s.running = true) :
    AttemptEnds .responseTimeoutExpiry (silent command attempt) .timeout (talking s (silent command attempt)) :=
  ⟨h, rfl, by simp [talking, silent, talk]⟩

/-- The exchange of slot 3 whose attempt ends at a reply. -/
theorem reply_ends (s : State) (command : ChainCommand) (bytes : List Byte) (o : AttemptOutcome) (h : s.running = true)
    (judged : judgeReply 3 command 2 bytes = o) :
    AttemptEnds (.replyEnd bytes) (talk command .receiving) o (talking s (talk command .receiving)) := by
  refine ⟨h, rfl, ?_⟩
  have two : ((talk command .receiving).frame[4]?.getD 0).toNat = 2 := by cases command <;> decide +kernel
  show judgeReply 3 command ((talk command .receiving).frame[4]?.getD 0).toNat bytes = o
  rw [two, judged]

/-- A timeout or a check error leaves the count below a threshold of 4 while it was below 3. -/
theorem silent_below (s : State) (command : ChainCommand) (attempt : Nat)
    (h : countAfter .timeout ((talking s (silent command attempt)).slot 3).failures < s.chain.faultThreshold) :
    (talking s (silent command attempt)).belowThreshold 3 .timeout := fun _ => h

theorem hyp_FailedAttemptIsRetried :
    (let s := talking (hubWith .settling) (silent .slumber 1);
      AttemptEnds .responseTimeoutExpiry (silent .slumber 1) .timeout s ∧ s.claimsSound ∧ s.belowThreshold 3 .timeout ∧
        (silent .slumber 1).attempt < s.chain.retryLimit) ∧
    (∀ op ∈ [DataOp.read, .write],
      let command : ChainCommand := if op = .read then .read else .write
      let s := talking ((hubBut .awake (fun r => { r with failures := 2 })).setQueue 3 [job op .dispatched]) (silent command 1)
      AttemptEnds .responseTimeoutExpiry (silent command 1) .timeout s ∧ s.claimsSound ∧ s.belowThreshold 3 .timeout ∧
        (silent command 1).attempt < s.chain.retryLimit ∧ s.queue 3 = [job op .dispatched]) := by
  refine ⟨⟨silent_ends _ _ _ (by decide +kernel), by decide +kernel, silent_below _ _ _ (by decide +kernel), by decide +kernel⟩, ?_⟩
  intro op _
  refine ⟨silent_ends _ _ _ rfl, by cases op <;> decide +kernel,
    silent_below _ _ _ (by cases op <;> decide +kernel), ?_, ?_⟩ <;> cases op <;> decide +kernel

theorem hyp_ThresholdFaultsSlot :
    ∀ x ∈ [(SlotState.awake, ChainCommand.read), (.awake, .write), (.waking, .wake), (.settling, .slumber)],
      let s := talking (hubBut x.1 (fun r => { r with failures := 3 })) (silent x.2 0)
      AttemptEnds .responseTimeoutExpiry (silent x.2 0) .timeout s ∧ s.claims = [] ∧ s.queuesSound ∧ x.2 ≠ .identify ∧
        s.chain.faultThreshold ≤ countAfter .timeout (s.slot 3).failures := by
  intro x hx
  refine ⟨silent_ends _ _ _ ?_, ?_⟩ <;> revert x <;> decide +kernel

/-- Slot 3 with its record in flight and a good reply received. -/
def answeredRead (st : SlotState) (d : Option Drain) (r : Record) (rest : List Record) : State :=
  talking ((hubBut st (fun x => { x with drain := d })).setQueue 3 (r :: rest))
    (talk (if r.op = .read then .read else .write) .receiving)

theorem hyp_DataExchangeCompletesRecord :
    (∀ x ∈ [(SlotState.awake, (none : Option Drain)), (.draining, some { cause := .evict, target := .slumber }),
        (.draining, some { cause := .shed, target := .off })],
      ∀ r ∈ [job .read .dispatched, job .write .dispatched, job .writePosted .dispatched,
          { job .read .dispatched with owner := .attention, tag := none }],
        let s := answeredRead x.1 x.2 r [job .read .queued]
        s.claims = [] ∧ s.queue 3 = r :: [job .read .queued] ∧ r.slot = 3 ∧ 3 ∈ s.useOrder ∧ s.stopped = false ∧
          s.restarting = false ∧ (s.slot 3).state = x.1 ∧ (s.slot 3).drain = x.2) ∧
    (let s := answeredRead .awake none (job .read .dispatched) [];
      AttemptEnds (.replyEnd (replyOf 0 [8, 9])) (talk .read .receiving) (.done [8, 9]) s ∧ s.belowThreshold 3 (.done [8, 9]) ∧
        s.attemptsOver (talk .read .receiving) (.done [8, 9])) ∧
    (let s := answeredRead .awake none (job .writePosted .dispatched) [];
      AttemptEnds (.replyEnd (replyOf 1 [])) (talk .write .receiving) .refused s ∧ s.belowThreshold 3 .refused ∧
        s.attemptsOver (talk .write .receiving) .refused) ∧
    (let s := talking ((hubWith .awake).setQueue 3 [job .write .dispatched]) (silent .write 2);
      AttemptEnds .responseTimeoutExpiry (silent .write 2) .timeout s ∧ s.belowThreshold 3 .timeout ∧
        s.attemptsOver (silent .write 2) .timeout) := by
  refine ⟨by decide +kernel, ⟨reply_ends _ .read _ _ rfl (by decide +kernel), ?_, .inl ⟨_, rfl⟩⟩,
    ⟨reply_ends _ .write _ _ rfl (by decide +kernel), ?_, .inr (.inl rfl)⟩,
    ⟨silent_ends _ _ _ rfl, silent_below _ _ _ (by decide +kernel), .inr (.inr (.inr (by decide +kernel)))⟩⟩ <;>
  · rintro (h | h) <;> cases h

theorem hyp_IdentifyDecidesSlot :
    (∀ st ∈ [SlotState.powering, .waking], ∀ mark ∈ [none, some TimeoutKind.powerUp, some .wake],
      ∀ kind ∈ [none, some SwitchOffKind.shed, some .offcmd],
        let s := talking (hubBut st (fun r => { r with timedOut := mark, switchOff := kind })) (talk .identify .receiving)
        (s.slot 3).state.comingUp = true ∧ s.claims = [] ∧ s.queuesSound ∧ (s.slot 3).timedOut = mark ∧
          (s.slot 3).switchOff = kind ∧ s.restarting = false ∧ s.chain.pollInterval ≠ 0 ∧
          (s.profile 3).power.moduleType = (0 : Byte).toNat * 256 + (5 : Byte).toNat ∧
          (s.profile 3).power.moduleType ≠ (0 : Byte).toNat * 256 + (6 : Byte).toNat) ∧
    (∀ y ∈ [(5 : Byte), 6], AttemptEnds (.replyEnd (replyOf 0 [0, y, 1])) (talk .identify .receiving) (.done [0, y, 1])
      (talking (hubWith .powering) (talk .identify .receiving))) ∧
    AttemptEnds (.replyEnd (replyOf 2 [])) (talk .identify .receiving) .notReady
      (talking (hubWith .powering) (talk .identify .receiving)) ∧ (∀ d, AttemptOutcome.notReady ≠ .done d) := by
  refine ⟨by decide +kernel, ?_, reply_ends _ .identify _ _ rfl (by decide +kernel), nofun⟩
  intro y hy
  refine reply_ends _ .identify _ _ rfl ?_
  revert y
  decide +kernel

theorem hyp_WakeAndSlumberDecideSlot :
    (∀ mark ∈ [none, some TimeoutKind.wake], ∀ kind ∈ [none, some SwitchOffKind.shed, some .offcmd],
      let s := talking (hubBut .waking (fun r => { r with timedOut := mark, switchOff := kind })) (silent .wake 0)
      AttemptEnds .responseTimeoutExpiry (silent .wake 0) .timeout s ∧ s.belowThreshold 3 .timeout ∧ s.claims = [] ∧
        s.queuesSound ∧ (s.slot 3).state = .waking ∧ s.restarting = false ∧ (s.profile 3).power.wakeDelay ≠ 0 ∧
        (s.slot 3).timedOut = mark ∧ (s.slot 3).switchOff = kind) ∧
    (∀ d ∈ [({ cause := .idle, target := .slumber } : Drain), { cause := .rest, target := .slumber },
        { cause := .offcmd, target := .off }],
      let s := talking (hubBut .settling (fun r => { r with drain := some d, pin := true })) (silent .slumber 2)
      AttemptEnds .responseTimeoutExpiry (silent .slumber 2) .timeout s ∧ s.belowThreshold 3 .timeout ∧ s.claims = [] ∧
        s.queuesSound ∧ (s.slot 3).state = .settling ∧ (s.slot 3).drain = some d ∧
        s.attemptsOver (silent .slumber 2) .timeout) ∧
    (let s := talking (hubBut .settling (fun r => { r with drain := some { cause := .idle, target := .slumber } }))
        (talk .slumber .receiving);
      AttemptEnds (.replyEnd (replyOf 0 [])) (talk .slumber .receiving) (.done []) s ∧ s.belowThreshold 3 (.done []) ∧
        s.attemptsOver (talk .slumber .receiving) (.done [])) := by
  refine ⟨?_, ?_, reply_ends _ .slumber _ _ rfl (by decide +kernel), ?_, .inl ⟨_, rfl⟩⟩
  · intro mark hm kind hk
    refine ⟨silent_ends _ _ _ rfl, silent_below _ _ _ ?_, ?_⟩ <;> revert mark kind <;> decide +kernel
  · intro d hd
    refine ⟨silent_ends _ _ _ rfl, silent_below _ _ _ ?_, ?_, ?_, ?_, ?_, .inr (.inr (.inr ?_))⟩ <;> revert d <;> decide +kernel
  · rintro (h | h) <;> cases h

theorem hyp_OutputChoiceFollowsTable :
    (on.running = true ∧ on.transmitter = .idle ∧ on.responses = [] ∧ on.notices = []) ∧
    (∀ k ∈ [7, 8],
      let reply : Response := { requester := 0, tag := 7, status := .ok, contents := [] }
      let s : State := { on with responseRun := k, notices := [note], responses := [.immediate 0],
                                 immediate := on.immediate.set 0 (.ready reply) }
      let u : State := { s with responses := [.record (job .read .done)] }
      s.running = true ∧ s.transmitter = .idle ∧ s.notices = [note] ∧ s.responses = [.immediate 0] ∧
        s.immediate[(0 : Fin 16)] = .ready reply ∧ u.responses = [.record (job .read .done)] ∧ s.responseRun = k) ∧
    (exec .restartCompletion { on with restart := .waiting 0 0 7 } =
      .next (after .restartCompletion { on with restart := .waiting 0 0 7 })) := by
  refine ⟨?_, ?_, rfl⟩ <;> decide +kernel

theorem hyp_LostNoticesAreReported :
    (∀ k ∈ [0, 1, 255],
      let s : State := { noted 32 with transmitter := .notice [], lostCount := k }
      s.running = true ∧ s.transmitter = .notice [] ∧ s.notices = note :: List.replicate 31 note ∧ s.lostCount = k) ∧
    ((noted 32).lostCount = 0 ∧ 32 ≤ (noted 32).notices.length) := by
  decide +kernel

theorem hyp_SentResponseFreesItem :
    (∀ item ∈ [ResponseItem.immediate 0, .record (job .read .done)],
      let s : State := { on with transmitter := .response [], responses := [item] }
      s.running = true ∧ s.transmitter = .response [] ∧ s.responses = [item] ∧ s.claimsSound ∧ s.claims = []) ∧
    (let s : State := { busy on 95 with
        transmitter := .response [], responses := [.record (job .read .done)], claims := [5] };
      s.running = true ∧ s.responses = [.record (job .read .done)] ∧ s.claims = 5 :: [] ∧ s.liveTotal = 96) := by
  decide +kernel

/-! The invariants hold at reset, which a statement says; here a state with work in it meets them, and a step answers. -/

theorem hyp_StepKeepsInvariants :
    let s : State := { (hubWith .awake).setQueue 3 [job .read .queued] with
      pending := [.chainSelection]
      requesters := on.requesters.set 1 { enabled := true, manage := false, limit := 1, ceiling := .normal } }
    step s = .next (after .chainSelection { s with pending := [] }) ∧ s.noticesSound ∧ s.ingressSound ∧ s.recordsBounded ∧
      s.queuesSound ∧ s.dispatchesSound ∧ s.claimsSound ∧ s.limitKept ∧ s.senFollows ∧ s.committed = s.chargeSum ∧
      s.grantsSound ∧ s.useOrder.Nodup := by
  refine ⟨rfl, ?_⟩
  decide +kernel

/-! ## Where the branches of a conclusion meet -/

theorem edge_OccurrenceRaised :
    (noted 31).notices.length < 32 ∧ ¬ (noted 32).notices.length < 32 ∧
      (let s : State := { on with notices := [{ note with kind := .linkCheck }] };
        (s.notices.drop s.noticesInTransmission).any (fun n => n.kind == .linkCheck) = true) ∧
      (let s : State := { on with notices := [{ note with kind := .linkCheck }], transmitter := .notice [] };
        (s.notices.drop s.noticesInTransmission).any (fun n => n.kind == .linkCheck) = false) := by
  decide +kernel

theorem edge_LimitAnswered :
    let s := hubWith .awake
    let u := passing (hubWith .awake) 5
    (s.sheds = false ∧ 9 < s.committed) ∧ (s.sheds = false ∧ ¬ 10 < s.committed) ∧
      (u.sheds = true ∧ u.effectiveLimit < 10 ∧ u.committed ≤ 10) ∧ (u.sheds = true ∧ ¬ u.committed ≤ 9) := by
  decide +kernel

theorem edge_ReasonGained :
    (hubWith .off).wakeEntry 3 = none ∧ (granting .off 10).wakeEntry 3 = some (waits .normal) := by
  decide +kernel

end Sys2Proof.Tests
end

section
/-! Reading a frame: what a frame says of each accessor that the statements use. -/

set_option Elab.async false

namespace Sys2Proof.Machine

variable {a : List Field} {s t : State}

theorem Unchanged.slot (h : Unchanged a s t) (n : Slot) (hf : Field.slots ∉ a := by decide) : t.slot n = s.slot n := by
  have e : s.slots = t.slots := h .slots hf
  simp only [State.slot, e]

theorem Unchanged.att (h : Unchanged a s t) (n : Slot) (hf : Field.attention ∉ a := by decide) : t.att n = s.att n := by
  have e : s.attention = t.attention := h .attention hf
  simp only [State.att, e]

theorem Unchanged.queue (h : Unchanged a s t) (n : Slot) (hf : Field.queues ∉ a := by decide) : t.queue n = s.queue n := by
  have e : s.queues = t.queues := h .queues hf
  simp only [State.queue, e]

theorem Unchanged.profile (h : Unchanged a s t) (n : Slot) (hf : Field.profiles ∉ a := by decide) :
    t.profile n = s.profile n := by
  have e : s.profiles = t.profiles := h .profiles hf
  simp only [State.profile, e]

theorem Unchanged.inFlight (h : Unchanged a s t) (n : Slot) (hf : Field.exchange ∉ a := by decide) :
    t.inFlight n = s.inFlight n := by
  have e : s.exchange = t.exchange := h .exchange hf
  simp only [State.inFlight, e]

theorem Unchanged.restarting (h : Unchanged a s t) (hf : Field.restart ∉ a := by decide) : t.restarting = s.restarting := by
  have e : s.restart = t.restart := h .restart hf
  simp only [State.restarting, e]

theorem Unchanged.running (h : Unchanged a s t) (hf : Field.hub ∉ a := by decide) : t.running = s.running := by
  have e : s.hub = t.hub := h .hub hf
  simp only [State.running, e]

theorem Unchanged.sheds (h : Unchanged a s t) (hf : Field.shedding ∉ a := by decide) : t.sheds = s.sheds := by
  have e : s.shedding = t.shedding := h .shedding hf
  simp only [State.sheds, e]

theorem Unchanged.listed (h : Unchanged a s t) (n : Slot) (hf : Field.wake ∉ a := by decide) : t.listed n = s.listed n := by
  have e : s.wake = t.wake := h .wake hf
  simp only [State.listed, e]

theorem Unchanged.wakeEntry (h : Unchanged a s t) (n : Slot) (hf : Field.wake ∉ a := by decide) :
    t.wakeEntry n = s.wakeEntry n := by
  have e : s.wake = t.wake := h .wake hf
  simp only [State.wakeEntry, e]

theorem Unchanged.effectiveLimit (h : Unchanged a s t) (hb : Field.budget ∉ a := by decide)
    (hs : Field.supplyTaken ∉ a := by decide) : t.effectiveLimit = s.effectiveLimit := by
  have e1 : s.budget = t.budget := h .budget hb
  have e2 : s.supplyTaken = t.supplyTaken := h .supplyTaken hs
  simp only [State.effectiveLimit, e1, e2]

theorem Unchanged.liveTotal (h : Unchanged a s t) (hq : Field.queues ∉ a := by decide)
    (hr : Field.responses ∉ a := by decide) : t.liveTotal = s.liveTotal := by
  have e1 : s.queues = t.queues := h .queues hq
  have e2 : s.responses = t.responses := h .responses hr
  simp only [State.liveTotal, State.liveRecords, e1, e2]

theorem Unchanged.idleSlot (h : Unchanged a s t) (n : Slot) (h1 : Field.slots ∉ a := by decide)
    (h2 : Field.queues ∉ a := by decide) (h3 : Field.exchange ∉ a := by decide) (h4 : Field.attention ∉ a := by decide) :
    t.idleSlot n = s.idleSlot n := by
  simp only [State.idleSlot, h.slot n h1, h.queue n h2, h.inFlight n h3, h.att n h4]

theorem Unchanged.candidate (h : Unchanged a s t) (n : Slot) (h1 : Field.slots ∉ a := by decide)
    (h2 : Field.queues ∉ a := by decide) (h3 : Field.exchange ∉ a := by decide) (h4 : Field.attention ∉ a := by decide) :
    t.candidate n = s.candidate n := by
  simp only [State.candidate, h.idleSlot n h1 h2 h3 h4, h.slot n h1]

/-- Events that neither create nor free a record keep the law of the fetch claims. -/
theorem Unchanged.claimsSound (h : Unchanged a s t) (hc : s.claimsSound) (h1 : Field.claims ∉ a := by decide)
    (h2 : Field.queues ∉ a := by decide) (h3 : Field.responses ∉ a := by decide) : t.claimsSound := by
  have e : s.claims = t.claims := h .claims h1
  show t.claims = [] ∨ Config.poolSize ≤ t.liveTotal
  rw [← e, h.liveTotal h2 h3]
  exact hc

theorem Unchanged.symm (h : Unchanged a s t) : Unchanged a t s := fun f hf => by
  have := h f hf
  cases f <;> exact Eq.symm this

end Sys2Proof.Machine
end

section
/-! Weights, SEN lines and the limit: what each shared operation keeps (R2, R3, R27, R42). -/

set_option Elab.async false

namespace Sys2Proof.Machine

/-! ## The relation of an operation that keeps the three laws -/

/-- From `s` to `t` the three laws are kept; that of the weights where `P` holds, the condition under which the operation is
called. -/
structure Keeps (P : Prop) (s t : State) : Prop where
  weights : P → s.weightsSound → t.weightsSound
  limit : s.limitKept → t.limitKept
  sen : s.senFollows → t.senFollows

variable {P Q : Prop} {s t u : State}

theorem Keeps.refl (P : Prop) (s : State) : Keeps P s s := ⟨fun _ h => h, fun h => h, fun h => h⟩

/-- Two operations one after the other; the condition of the second is to follow from that of the first and the sound weights of
either state. -/
theorem Keeps.trans (h : Keeps P s t) (k : Keeps Q t u) (q : P → s.weightsSound → t.weightsSound → Q) : Keeps P s u :=
  ⟨fun p w => k.weights (q p w (h.weights p w)) (h.weights p w), fun l => k.limit (h.limit l), fun l => k.sen (h.sen l)⟩

theorem Keeps.andThen (h : Keeps P s t) (k : Keeps True t u) : Keeps P s u := h.trans k (fun _ _ _ => trivial)

theorem Keeps.under (h : Keeps Q s t) (q : P → s.weightsSound → Q) : Keeps P s t :=
  ⟨fun p w => h.weights (q p w) w, h.limit, h.sen⟩

theorem Keeps.of_true (h : Keeps True s t) : Keeps P s t := h.under (fun _ _ => trivial)

theorem Keeps.ite {p : Prop} [Decidable p] (h : p → Keeps P s t) (k : ¬ p → Keeps P s u) :
    Keeps P s (if p then t else u) := by
  split
  · exact h ‹_›
  · exact k ‹_›

theorem Keeps.foldl {α : Type} {op : State → α → State} (h : ∀ s x, Keeps True s (op s x)) :
    ∀ (l : List α) (s : State), Keeps True s (l.foldl op s)
  | [], s => Keeps.refl True s
  | x :: l, s => (h s x).andThen (Keeps.foldl h l (op s x))

/-! ## Two states that agree in weights and switches -/

/-- Two slot records agree in what weights and switches depend on. -/
def SlotRecord.Alike (r q : SlotRecord) : Prop :=
  q.state = r.state ∧ q.grantedAwake = r.grantedAwake ∧ q.grantedStandby = r.grantedStandby ∧ q.sen = r.sen

theorem SlotRecord.Alike.trans {r q p : SlotRecord} (h : r.Alike q) (k : q.Alike p) : r.Alike p :=
  ⟨k.1.trans h.1, k.2.1.trans h.2.1, k.2.2.1.trans h.2.2.1, k.2.2.2.trans h.2.2.2⟩

theorem SlotRecord.Alike.charge {r q : SlotRecord} (h : r.Alike q) : q.charge = r.charge := by
  obtain ⟨hs, ha, hb, -⟩ := h
  simp only [SlotRecord.charge, hs, ha, hb]

theorem limitKept_of_frame {a : List Field} (h : Unchanged a s t)
    (ha : ∀ f ∈ [Field.shedding, .budget, .supplyTaken], f ∉ a) (hc : t.committed ≤ s.committed) (hl : s.limitKept) :
    t.limitKept := fun hs => by
  rw [h.sheds (ha _ (by decide))] at hs
  rw [h.effectiveLimit (ha _ (by decide)) (ha _ (by decide))]
  exact hc.trans (hl hs)

/-- What an operation may do that leaves states, grants and switches of all slots alone: wake list entries of listed or of resting
slots, control exchanges that the slot's state asks for, an exchange of those. -/
theorem Keeps.of_alike (hs : ∀ m, (s.slot m).Alike (t.slot m)) (hp : ∀ m, t.profile m = s.profile m)
    (hc : t.committed = s.committed) (hl : s.limitKept → t.limitKept)
    (hw : P → ∀ e ∈ t.wake, (∃ e' ∈ s.wake, e'.slot = e.slot) ∨ (s.slot e.slot).state.resting = true)
    (hk : P → ∀ c ∈ t.control, c ∈ s.control ∨ controlSound true c.command (s.slot c.slot).state)
    (hx : P → s.weightsSound → ∀ e, t.exchange = some e →
      s.exchange = some e ∨ controlSound false e.command (s.slot e.slot).state)
    (hu : s.useOrder.Nodup → t.useOrder.Nodup) : Keeps P s t := by
  have hstate : ∀ m, (t.slot m).state = (s.slot m).state := fun m => (hs m).1
  refine ⟨fun p w => ?_, hl, fun h m => ?_⟩
  · obtain ⟨wsum, wgrants, wwake, wcontrol, wexchange, worder⟩ := w
    refine ⟨?_, fun m => ?_, fun e he => ?_, fun c hcm => ?_, fun e he => ?_, hu worder⟩
    · simp only [State.chargeSum, (hs _).charge, hc]
      exact wsum
    · rw [hp, (hs m).1, (hs m).2.1, (hs m).2.2.1]
      exact wgrants m
    · rw [hstate]
      rcases hw p e he with ⟨e', he', hee⟩ | hr
      · exact hee ▸ wwake e' he'
      · exact hr
    · rw [hstate]
      exact (hk p c hcm).elim (wcontrol c) id
    · rw [hstate]
      exact (hx p ⟨wsum, wgrants, wwake, wcontrol, wexchange, worder⟩ e he).elim (wexchange e) id
  · rw [hstate, (hs m).2.2.2]
    exact h m

/-- The fields that the three laws read. -/
abbrev weighedFields : List Field :=
  [.slots, .useOrder, .committed, .wake, .profiles, .exchange, .control, .shedding, .budget, .supplyTaken]

/-- An operation that leaves alone every field the laws read but the slot records, which it leaves alike. -/
theorem Keeps.of_slots {a : List Field} (h : Unchanged a s t) (hs : ∀ m, (s.slot m).Alike (t.slot m))
    (ha : ∀ f ∈ weighedFields, f ≠ .slots → f ∉ a := by decide) : Keeps P s t := by
  have eu : s.useOrder = t.useOrder := h .useOrder (ha _ (by decide) (by decide))
  have ec : s.committed = t.committed := h .committed (ha _ (by decide) (by decide))
  have ew : s.wake = t.wake := h .wake (ha _ (by decide) (by decide))
  have ex : s.exchange = t.exchange := h .exchange (ha _ (by decide) (by decide))
  have ek : s.control = t.control := h .control (ha _ (by decide) (by decide))
  refine Keeps.of_alike hs (fun m => h.profile m (ha _ (by decide) (by decide))) ec.symm ?_ ?_ ?_ ?_ (fun hn => eu ▸ hn)
  · exact limitKept_of_frame h (fun f hf => ha f (by revert f; decide) (by revert f; decide)) ec.ge
  · exact fun _ e he => Or.inl ⟨e, ew ▸ he, rfl⟩
  · exact fun _ c hc => Or.inl (ek ▸ hc)
  · exact fun _ _ e he => Or.inl (ex ▸ he)

theorem SlotRecord.Alike.refl (r : SlotRecord) : r.Alike r := ⟨rfl, rfl, rfl, rfl⟩

/-- An operation that leaves alone every field the laws read. -/
theorem Keeps.of_frame {a : List Field} (h : Unchanged a s t) (ha : ∀ f ∈ weighedFields, f ∉ a := by decide) : Keeps P s t := by
  refine Keeps.of_slots h (fun m => ?_) (fun f hf _ => ha f hf)
  rw [h.slot m (ha _ (by decide))]
  exact SlotRecord.Alike.refl _

/-- One slot record gets another with the same state, grants and switch. -/
theorem setSlot_keeps (s : State) (n : Slot) (r : SlotRecord) (hr : (s.slot n).Alike r) : Keeps P s (s.setSlot n r) := by
  refine Keeps.of_slots (setSlot_frame s n r) (fun m => ?_)
  by_cases hm : m = n
  · subst hm; simpa using hr
  · rw [setSlot_slot_other s n m r hm]; exact SlotRecord.Alike.refl _

/-! ## The wake list -/

theorem gainReason_keeps (s : State) (n : Slot) (why : WakeReason) (l : Level) :
    Keeps ((s.slot n).state.resting = true) s (s.gainReason n why l) := by
  have f := gainReason_frame s n why l
  have hsub : ∀ e ∈ (s.gainReason n why l).wake, e.slot = n ∨ e ∈ s.wake := by
    intro e he
    unfold State.gainReason at he
    cases h : s.wakeEntry n with
    | none =>
      simp only [h, markEvaluation_eq, List.mem_append, List.mem_singleton] at he
      exact he.symm.imp (fun e1 => by rw [e1]) id
    | some e' =>
      have he' : e'.slot = n := wakeEntry_slot s n h
      simp only [h, markEvaluation_eq, apply_ite State.wake, ite_self, List.mem_map] at he
      obtain ⟨x, hx, rfl⟩ := he
      by_cases hxn : x.slot = n
      · simp [hxn, he']
      · simp [hxn, hx]
  refine Keeps.of_alike (fun m => ?_) (fun m => f.profile m) (f .committed (by decide)).symm ?_ ?_ ?_ ?_ ?_
  · rw [f.slot m]; exact SlotRecord.Alike.refl _
  · exact limitKept_of_frame f (by decide) (f .committed (by decide)).ge
  · intro hr e he
    exact (hsub e he).symm.imp (fun h => ⟨e, h, rfl⟩) (fun h => by rw [h]; exact hr)
  · exact fun _ c hc => Or.inl (((f .control (by decide)) : s.control = _) ▸ hc)
  · exact fun _ _ e he => Or.inl (((f .exchange (by decide)) : s.exchange = _) ▸ he)
  · exact fun hn => ((f .useOrder (by decide)) : s.useOrder = _) ▸ hn

/-- An operation that only takes entries out of the wake list, or changes them for the same slot. -/
theorem Keeps.of_wake {a : List Field} (f : Unchanged a s t) (hw : ∀ e ∈ t.wake, ∃ e' ∈ s.wake, e'.slot = e.slot)
    (ha : ∀ f ∈ weighedFields, f ≠ .wake → f ∉ a := by decide) : Keeps P s t := by
  refine Keeps.of_alike (fun m => ?_) (fun m => f.profile m (ha _ (by decide) (by decide)))
    (f .committed (ha _ (by decide) (by decide))).symm ?_ (fun _ e he => Or.inl (hw e he)) ?_ ?_ ?_
  · rw [f.slot m (ha _ (by decide) (by decide))]; exact SlotRecord.Alike.refl _
  · exact limitKept_of_frame f (fun f hf => ha f (by revert f; decide) (by revert f; decide))
      (f .committed (ha _ (by decide) (by decide))).ge
  · exact fun _ c hc => Or.inl (((f .control (ha _ (by decide) (by decide))) : s.control = _) ▸ hc)
  · exact fun _ _ e he => Or.inl (((f .exchange (ha _ (by decide) (by decide))) : s.exchange = _) ▸ he)
  · exact fun hn => ((f .useOrder (ha _ (by decide) (by decide))) : s.useOrder = _) ▸ hn

theorem removeEntry_keeps (s : State) (n : Slot) : Keeps True s (s.removeEntry n) := by
  refine Keeps.of_wake (removeEntry_frame s n) (fun e he => ⟨e, ?_, rfl⟩)
  rw [removeEntry_wake] at he
  exact List.mem_of_mem_filter he

theorem withdrawReason_keeps (s : State) (n : Slot) (why : WakeReason) : Keeps True s (s.withdrawReason n why) := by
  refine Keeps.of_wake (withdrawReason_frame s n why) (fun e he => ?_)
  unfold State.withdrawReason at he
  split at he
  · exact ⟨e, he, rfl⟩
  · split at he
    · rw [removeEntry_wake] at he
      exact ⟨e, List.mem_of_mem_filter he, rfl⟩
    · obtain ⟨x, hx, rfl⟩ := List.mem_map.mp he
      refine ⟨x, hx, ?_⟩
      split <;> rfl

/-! ## Control exchanges -/

theorem mem_askControl {n : Slot} {command : ChainCommand} {c : ControlEntry} (h : c ∈ (s.askControl n command).control) :
    c ∈ s.control ∨ c = { slot := n, command := command } := by
  unfold State.askControl at h
  split at h
  · exact Or.inl h
  · exact (List.mem_append.mp h).imp id List.mem_singleton.mp

theorem askControl_keeps (s : State) (n : Slot) (command : ChainCommand) :
    Keeps (controlSound true command (s.slot n).state) s (s.askControl n command) := by
  have f := askControl_frame s n command
  refine Keeps.of_alike (fun m => ?_) (fun m => f.profile m) (f .committed (by decide)).symm ?_ ?_ ?_ ?_ ?_
  · rw [f.slot m]; exact SlotRecord.Alike.refl _
  · exact limitKept_of_frame f (by decide) (f .committed (by decide)).ge
  · exact fun _ e he => Or.inl ⟨e, ((f .wake (by decide)) : s.wake = _) ▸ he, rfl⟩
  · exact fun hs c hc => (mem_askControl hc).imp id (fun h => by rw [h]; exact hs)
  · exact fun _ _ e he => Or.inl (((f .exchange (by decide)) : s.exchange = _) ▸ he)
  · exact fun hn => ((f .useOrder (by decide)) : s.useOrder = _) ▸ hn

theorem loadPoll_keeps (s : State) (n : Slot) (p : StepPurpose) (ms : Nat) :
    Keeps ((s.slot n).state.comingUp = true) s (s.loadPoll n p ms) := by
  unfold State.loadPoll
  refine Keeps.ite (fun _ => Keeps.refl _ s) (fun _ => Keeps.ite (fun _ => ?_) (fun _ => ?_))
  · exact (askControl_keeps s n .identify).under (fun h _ => h)
  · exact setSlot_keeps s n _ ⟨rfl, rfl, rfl, rfl⟩

theorem startIdleHold_keeps (s : State) (n : Slot) : Keeps True s (s.startIdleHold n) := by
  unfold State.startIdleHold
  exact Keeps.ite (fun _ => setSlot_keeps s n _ ⟨rfl, rfl, rfl, rfl⟩) (fun _ => Keeps.refl _ s)

theorem convertDrain_keeps (s : State) (n : Slot) (c : DrainCause) : Keeps True s (s.convertDrain n c) :=
  setSlot_keeps s n _ ⟨rfl, rfl, rfl, rfl⟩

/-! ## The change of one slot -/

/-- A sum over a list without repetition, when one element's term changes. -/
theorem sum_map_change {α : Type} [DecidableEq α] {f g : α → Nat} {n : α} (h : ∀ m, m ≠ n → g m = f m) :
    ∀ l : List α, l.Nodup → n ∈ l → (l.map g).sum + f n = (l.map f).sum + g n
  | [], _, hn => absurd hn (List.not_mem_nil)
  | x :: l, hd, hn => by
    obtain ⟨hx, hl⟩ := List.nodup_cons.mp hd
    simp only [List.map_cons, List.sum_cons]
    by_cases hxn : x = n
    · subst hxn
      have e : l.map g = l.map f := List.map_congr_left (fun m hm => h m (fun e => hx (e ▸ hm)))
      rw [e]; omega
    · have ih := sum_map_change h l hl ((List.mem_cons.mp hn).resolve_left (Ne.symm hxn))
      rw [h x hxn]; omega

theorem mem_allSlots (n : Slot) : n ∈ allSlots := List.mem_finRange n

theorem chargeSum_change {n : Slot} (h : ∀ m, m ≠ n → t.slot m = s.slot m) :
    t.chargeSum + (s.slot n).charge = s.chargeSum + (t.slot n).charge :=
  sum_map_change (f := fun m => (s.slot m).charge) (g := fun m => (t.slot m).charge) (fun m hm => by rw [h m hm]) allSlots
    (List.nodup_finRange 24) (mem_allSlots n)

theorem charge_le_chargeSum (s : State) (n : Slot) : (s.slot n).charge ≤ s.chargeSum :=
  List.single_le_sum (fun _ _ => Nat.zero_le _) _ (List.mem_map_of_mem (mem_allSlots n))

/-- What keeps the weights sound when the slot `n` changes from `s` to `t`. -/
structure ChangeSound (n : Slot) (s t : State) : Prop where
  weight : t.committed + (s.slot n).charge = s.committed + (t.slot n).charge
  grants : (t.slot n).state.powered = true →
    (t.slot n).grantedAwake = (s.profile n).power.awake ∧ (t.slot n).grantedStandby = (s.profile n).power.standby
  wake : ∀ e ∈ t.wake, e ∈ s.wake ∧ e.slot ≠ n ∨ (t.slot e.slot).state.resting = true
  control : ∀ c ∈ t.control, c ∈ s.control ∧ c.slot ≠ n ∨ controlSound true c.command (t.slot c.slot).state
  exchange : ∀ e, t.exchange = some e →
    s.exchange = some e ∧ e.slot ≠ n ∨ controlSound false e.command (t.slot e.slot).state
  order : t.useOrder.Nodup

theorem Keeps.of_change {n : Slot} (hs : ∀ m, m ≠ n → t.slot m = s.slot m) (hp : ∀ m, t.profile m = s.profile m)
    (hsen : (t.slot n).sen = (t.slot n).state.powered) (hl : s.limitKept → t.limitKept)
    (hw : P → s.weightsSound → ChangeSound n s t) : Keeps P s t := by
  refine ⟨fun p w => ?_, hl, fun h m => ?_⟩
  · have ch := hw p w
    obtain ⟨wsum, wgrants, wwake, wcontrol, wexchange, -⟩ := w
    refine ⟨?_, fun m => ?_, fun e he => ?_, fun c hc => ?_, fun e he => ?_, ch.order⟩
    · have h1 := ch.weight
      have h2 := chargeSum_change hs
      omega
    · rw [hp]
      refine ⟨(wgrants m).1, ?_⟩
      by_cases hm : m = n
      · exact hm ▸ ch.grants
      · rw [hs m hm]; exact (wgrants m).2
    · rcases ch.wake e he with ⟨hold, hne⟩ | hr
      · rw [hs _ hne]; exact wwake e hold
      · exact hr
    · rcases ch.control c hc with ⟨hold, hne⟩ | hr
      · rw [hs _ hne]; exact wcontrol c hold
      · exact hr
    · rcases ch.exchange e he with ⟨hold, hne⟩ | hr
      · rw [hs _ hne]; exact wexchange e hold
      · exact hr
  · by_cases hm : m = n
    · exact hm ▸ hsen
    · rw [hs m hm]; exact h m

/-- No control exchange for `n` is in flight, so that its state may change in any way. -/
def State.unheld (s : State) (n : Slot) : Prop :=
  ∀ e, s.exchange = some e → e.slot = n → ∀ st, controlSound false e.command st

theorem unheld_of_notInFlight {n : Slot} (h : s.inFlight n = false) : s.unheld n := fun e he hn => by
  simp [State.inFlight, he, hn] at h

theorem unheld_of_free {n : Slot} (h : s.exchange = none) : s.unheld n := fun e he => by simp [h] at he

/-- The states in which no control exchange for a slot can be in flight. -/
theorem unheld_of_state {n : Slot} (w : s.weightsSound) (h1 : (s.slot n).state.comingUp = false)
    (h2 : (s.slot n).state ≠ .settling) : s.unheld n := fun e he hn st => by
  have hx := w.2.2.2.2.1 e he
  rw [hn] at hx
  cases hc : e.command with
  | identify => simp [hc, controlSound, h1] at hx
  | wake => simp only [hc, controlSound] at hx; simp [hx, SlotState.comingUp] at h1
  | slumber => simp [hc, controlSound, h2] at hx
  | read => rfl
  | write => rfl

/-- A slot that is not in OFF or SLUMBER is not listed. -/
theorem unlisted_of_state {n : Slot} (w : s.weightsSound) (h : (s.slot n).state.resting = false) :
    ∀ e ∈ s.wake, e.slot ≠ n := fun e he hn => by
  have := w.2.2.1 e he
  rw [hn, h] at this
  exact Bool.noConfusion this

theorem useOrderAfter_nodup {order : List Slot} (h : order.Nodup) (n : Slot) (old new : SlotState) :
    (useOrderAfter order n old new).Nodup := by
  have hf : (order.filter (· != n)).Nodup := h.filter _
  cases new with
  | awake =>
    show (if old = .draining then order else order.filter (· != n) ++ [n]).Nodup
    split
    · exact h
    · exact List.nodup_append.mpr ⟨hf, List.nodup_singleton n, by simp +contextual⟩
  | settling => exact hf
  | off => exact hf
  | faulted => exact hf
  | powering => exact h
  | slumber => exact h
  | waking => exact h
  | draining => exact h

/-- The conditions under which a slot may change to the state `new` with its grants as they are: it comes to rest or to a fault, or
its charge is and stays its awake weight. -/
structure State.MayChange (s : State) (n : Slot) (new : SlotState) : Prop where
  free : s.unheld n
  powered : new.powered = true → (s.slot n).state.powered = true
  charged : new.resting = true ∨ new.powered = false ∨ (s.slot n).state ≠ .slumber

/-- The charge after a change that is allowed does not exceed the charge before it. -/
theorem charge_changed_le {n : Slot} {new : SlotState} (hg : s.grantsSound) (h : s.MayChange n new) :
    ((s.slot n).changed new).charge ≤ (s.slot n).charge := by
  obtain ⟨hle, hgr⟩ := hg n
  obtain ⟨-, hpow, hch⟩ := h
  simp only [SlotRecord.charge, SlotRecord.changed]
  cases new <;> cases hs : (s.slot n).state <;>
    simp_all [SlotState.powered, SlotState.resting]

/-- A change of state under these conditions, with the entry taken out where the new state is not a resting one. -/
theorem changeState_changeSound {n : Slot} {new : SlotState} {x : List Byte} (w : s.weightsSound) (h : s.MayChange n new)
    (hw : new.resting = true ∨ ∀ e ∈ t.wake, e.slot ≠ n) (hsub : ∀ e ∈ t.wake, e ∈ s.wake)
    (f : Unchanged [.wake, .evaluationDue] (s.changeState n new x) t) : ChangeSound n s t := by
  have fc := changeState_frame s n new x
  have hself : t.slot n = (s.slot n).changed new := (f.slot n).trans (changeState_slot_self s n new x)
  have hchg := charge_changed_le w.2.1 h
  have hsum : (s.slot n).charge ≤ s.committed := w.1 ▸ charge_le_chargeSum s n
  refine ⟨?_, fun hp => ?_, fun e he => ?_, fun c hc => ?_, fun e he => ?_, ?_⟩
  · rw [← (f .committed (by decide) : _ = t.committed), changeState_committed, hself]
    omega
  · rw [hself] at hp ⊢
    exact (w.2.1 n).2 (h.powered hp)
  · by_cases hn : e.slot = n
    · rcases hw with hr | hne
      · right; rw [hn, hself]; exact hr
      · exact absurd hn (hne e he)
    · exact Or.inl ⟨hsub e he, hn⟩
  · rw [← (f .control (by decide) : _ = t.control), changeState_control] at hc
    exact Or.inl ⟨List.mem_of_mem_filter hc, by simpa using (List.mem_filter.mp hc).2⟩
  · rw [← (f .exchange (by decide) : _ = t.exchange), ← (fc .exchange (by decide) : s.exchange = _)] at he
    by_cases hn : e.slot = n
    · exact Or.inr (h.free e he hn _)
    · exact Or.inl ⟨he, hn⟩
  · rw [← (f .useOrder (by decide) : _ = t.useOrder), changeState_useOrder]
    exact useOrderAfter_nodup w.2.2.2.2.2 n _ _

theorem changed_sen (r : SlotRecord) (new : SlotState) : (r.changed new).sen = (r.changed new).state.powered := rfl

theorem changeState_limit (s : State) (n : Slot) (new : SlotState) (x : List Byte) (h : s.limitKept) :
    (s.changeState n new x).limitKept := by
  refine limitKept_of_frame (changeState_frame s n new x) (by decide) ?_ h
  rw [changeState_committed]
  exact Nat.sub_le _ _

theorem changeState_keeps (s : State) (n : Slot) (new : SlotState) (x : List Byte) :
    Keeps (s.MayChange n new ∧ (new.resting = true ∨ (s.slot n).state.resting = false)) s (s.changeState n new x) := by
  have fc := changeState_frame s n new x
  refine Keeps.of_change (n := n) (fun m hm => (changeState_onlySlot s n new x m hm).1) (fun m => fc.profile m) ?_
    (changeState_limit s n new x) (fun ⟨hm, hr⟩ w => ?_)
  · rw [changeState_slot_self]; exact changed_sen _ _
  · have ew : s.wake = (s.changeState n new x).wake := fc .wake (by decide)
    refine changeState_changeSound w hm ?_ (fun e he => ew ▸ he) (Unchanged.refl _ _)
    exact hr.imp id (fun h e he => unlisted_of_state w h e (ew ▸ he))

end Sys2Proof.Machine
end

section
/-! Weights, SEN lines and the limit: the operations that move a slot between its states, and the end of an event. -/

set_option Elab.async false

namespace Sys2Proof.Machine

variable {P : Prop} {s t : State}

/-! ## Coming to rest -/

theorem endAction_keeps (s : State) (n : Slot) (st : Status) (d : List Byte) (h : Bool) : Keeps P s (s.endAction n st d h) :=
  Keeps.of_frame (endAction_frame s n st d h)

theorem attentionAtOff_keeps (s : State) (n : Slot) : Keeps True s (s.attentionAtOff n) := by
  dsimp only [State.attentionAtOff]
  refine Keeps.ite (fun _ => Keeps.of_frame (setAtt_frame s n _)) (fun _ => ?_)
  refine Keeps.andThen ?_ (Keeps.of_frame (setAtt_frame _ n _))
  split
  · refine Keeps.andThen (Keeps.of_frame (a := [.claims]) ?_) (Keeps.of_frame (raiseAttention_frame _ n _ _))
    intro f hf; cases f <;> first | rfl | exact absurd (by decide) hf
  · exact (withdrawReason_keeps s n _).andThen (Keeps.of_frame (raiseAttention_frame _ n _ _))
  · exact Keeps.refl _ s
  · exact Keeps.refl _ s
  · exact Keeps.refl _ s

theorem gainAtRest_keeps (s : State) (n : Slot) (x : Bool) :
    Keeps ((s.slot n).state.resting = true) s (s.gainAtRest n x) := by
  dsimp only [State.gainAtRest]
  generalize hq : (if (s.queue n).isEmpty then s else s.gainReason n .work (s.workLevel n)) = s1
  have k : Keeps ((s.slot n).state.resting = true) s s1 ∧ s1.slot n = s.slot n := by
    rw [← hq]
    split
    · exact ⟨Keeps.refl _ s, rfl⟩
    · exact ⟨gainReason_keeps s n _ _, (gainReason_frame s n _ _).slot n⟩
  refine Keeps.ite (fun _ => ?_) (fun _ => k.1)
  exact k.1.trans (gainReason_keeps s1 n _ _) (fun h _ _ => k.2 ▸ h)

theorem mayRest (h : s.unheld n) : s.MayChange n .off := ⟨h, fun h => Bool.noConfusion h, Or.inl rfl⟩

theorem enterOff_keeps (s : State) (n : Slot) (x : Bool) : Keeps (s.unheld n) s (s.enterOff n x) := by
  have hc : Keeps (s.unheld n) s (s.changeState n .off []) :=
    (changeState_keeps s n .off []).under (fun h _ => ⟨mayRest h, Or.inl rfl⟩)
  refine (hc.andThen (attentionAtOff_keeps _ n)).trans (gainAtRest_keeps _ n x) (fun _ _ _ => ?_)
  rw [(attentionAtOff_frame _ n).slot n, changeState_slot_self]
  rfl

theorem enterSlumber_keeps (s : State) (n : Slot) (x : Bool) :
    Keeps (s.unheld n ∧ (s.slot n).state.powered = true) s (s.enterSlumber n x) := by
  have hc : Keeps (s.unheld n ∧ (s.slot n).state.powered = true) s (s.changeState n .slumber []) :=
    (changeState_keeps s n .slumber []).under (fun ⟨h, hp⟩ _ => ⟨⟨h, fun _ => hp, Or.inl rfl⟩, Or.inl rfl⟩)
  have hr : ((s.changeState n .slumber []).slot n).state.resting = true := by rw [changeState_slot_self]; rfl
  have hg := hc.trans (gainAtRest_keeps _ n x) (fun _ _ _ => hr)
  dsimp only [State.enterSlumber]
  refine Keeps.ite (fun _ => hg.trans (gainReason_keeps _ n _ _) (fun _ _ _ => ?_)) (fun _ => hg)
  rw [(gainAtRest_frame _ n x).slot n]
  exact hr

theorem towardsRest_keeps (s : State) (n : Slot) : Keeps True s (s.towardsRest n) := by
  unfold State.towardsRest
  split
  · rename_i hs _ hf
    split
    · exact (enterOff_keeps s n _).under (fun _ _ => unheld_of_notInFlight hf)
    · exact (askControl_keeps s n .slumber).under (fun _ _ => hs)
  · exact Keeps.refl _ s

/-- A slot in AWAKE or DRAINING has no control exchange in flight, is not listed, and is charged its awake weight. -/
theorem changeState_keeps_inUse (s : State) (n : Slot) (new : SlotState) (x : List Byte) :
    Keeps ((s.slot n).state = .awake ∨ (s.slot n).state = .draining) s (s.changeState n new x) := by
  refine (changeState_keeps s n new x).under (fun h w => ⟨⟨?_, fun _ => ?_, Or.inr (Or.inr ?_)⟩, Or.inr ?_⟩)
  · exact unheld_of_state w (by rcases h with h | h <;> rw [h] <;> rfl) (by rcases h with h | h <;> rw [h] <;> decide)
  all_goals rcases h with h | h <;> rw [h] <;> decide

theorem startDrain_keeps (s : State) (n : Slot) (c : DrainCause) (m : RestMode) :
    Keeps ((s.slot n).state = .awake) s (s.startDrain n c m) := by
  have hc := (changeState_keeps_inUse s n .draining [drainCauseCode c]).under
    (P := (s.slot n).state = .awake) (fun h _ => Or.inl h)
  unfold State.startDrain
  refine Keeps.andThen (hc.andThen ?_) (towardsRest_keeps _ n)
  exact setSlot_keeps _ n _ ⟨rfl, rfl, rfl, rfl⟩

theorem switchOff_keeps (s : State) (n : Slot) (k : SwitchOffKind) : Keeps True s (s.switchOff n k) := by
  unfold State.switchOff
  refine Keeps.ite (fun _ => setSlot_keeps s n _ ⟨rfl, rfl, rfl, rfl⟩) (fun h => (enterOff_keeps s n _).under (fun _ w => ?_))
  by_cases hs : (s.slot n).state = .slumber
  · exact unheld_of_state w (by rw [hs]; rfl) (by rw [hs]; decide)
  · exact unheld_of_notInFlight (by simpa [hs] using h)

theorem cancelDrain_keeps (s : State) (n : Slot) : Keeps ((s.slot n).state = .draining) s (s.cancelDrain n) := by
  have hc := (changeState_keeps_inUse s n .awake []).under (P := (s.slot n).state = .draining) (fun h _ => Or.inr h)
  dsimp only [State.cancelDrain]
  exact Keeps.ite (fun _ => hc.andThen (endAction_keeps _ n _ _ _)) (fun _ => hc)

theorem idleDraining_state {r : SlotRecord} (h : r.idleDraining = true) : r.state = .draining := by
  simp only [SlotRecord.idleDraining, Bool.and_eq_true, beq_iff_eq] at h
  exact h.1

/-! ## Records that join, and attention actions -/

theorem joinQueue_keeps (s : State) (n : Slot) (r : Record) : Keeps True s (s.joinQueue n r) := by
  have h : Keeps True s (s.setQueue n (s.queue n ++ [r])) := Keeps.of_frame (setQueue_frame s n _)
  have hr : ∀ l, (s.slot n).state.resting = true →
      Keeps True s ((s.setQueue n (s.queue n ++ [r])).gainReason n .work l) := fun l hr =>
    h.trans (gainReason_keeps _ n _ _) (fun _ _ _ => hr)
  dsimp only [State.joinQueue]
  split
  · exact h.andThen (setSlot_keeps _ n _ ⟨rfl, rfl, rfl, rfl⟩)
  · refine Keeps.ite (fun hd => h.trans (cancelDrain_keeps _ n) (fun _ _ _ => idleDraining_state hd)) (fun _ => h)
  · rename_i hs; exact hr _ (by rw [show (s.slot n).state = .off from hs]; rfl)
  · rename_i hs; exact hr _ (by rw [show (s.slot n).state = .slumber from hs]; rfl)
  · exact h
  · exact h
  · exact h
  · exact h

theorem createFetch_keeps (s : State) (n : Slot) : Keeps True s (s.createFetch n) :=
  (Keeps.of_frame (setAtt_frame s n _)).andThen (joinQueue_keeps _ n _)

theorem setClaims_frame (s : State) (l : List Slot) : Unchanged [.claims] s { s with claims := l } := by
  intro f hf; cases f <;> first | rfl | exact absurd (by decide) hf

theorem serveClaims_keeps (s : State) : Keeps True s s.serveClaims :=
  (Keeps.of_frame (setClaims_frame s _)).andThen (Keeps.foldl (fun s n => createFetch_keeps s n) _ _)

theorem startAction_keeps (s : State) (n : Slot) : Keeps True s (s.startAction n) := by
  have hw : Keeps True s (s.setAtt n { s.att n with phase := .waitingAwake }) := Keeps.of_frame (setAtt_frame s n _)
  dsimp only [State.startAction]
  split
  · exact Keeps.refl _ s
  · exact endAction_keeps s n _ _ _
  · split
    · exact endAction_keeps s n _ _ _
    · rename_i hs
      exact hw.trans (gainReason_keeps _ n _ _) (fun _ _ _ => by rw [setAtt_slot, hs]; rfl)
    · exact hw
    · exact hw
    · exact hw
    · exact hw
    · exact hw
    · exact hw
  · refine Keeps.ite (fun _ => createFetch_keeps s n) (fun _ => ?_)
    exact (Keeps.of_frame (setAtt_frame s n _)).andThen (Keeps.of_frame (setClaims_frame _ _))

theorem activation_keeps (s : State) (n : Slot) : Keeps True s (s.activation n) := by
  unfold State.activation
  split
  · exact Keeps.ite (fun _ => Keeps.refl _ s) (fun _ => (Keeps.of_frame (setAtt_frame s n _)).andThen (startAction_keeps _ n))
  · exact Keeps.refl _ s
  · exact Keeps.of_frame (setAtt_frame s n _)
  · exact Keeps.of_frame (setAtt_frame s n _)
  · exact Keeps.of_frame (setAtt_frame s n _)

/-! ## Faults -/

/-- The change to FAULTED and the removal of the entry, taken together: in between, a FAULTED slot could be listed. -/
theorem faultChange_keeps (s : State) (n : Slot) :
    Keeps (s.unheld n) s ((s.changeState n .faulted []).removeEntry n) := by
  have fc := changeState_frame s n .faulted []
  have fr := removeEntry_frame (s.changeState n .faulted []) n
  have ew : ∀ e ∈ ((s.changeState n .faulted []).removeEntry n).wake, e ∈ s.wake ∧ e.slot ≠ n := fun e he => by
    rw [removeEntry_wake, ← (fc .wake (by decide) : s.wake = _)] at he
    simpa using he
  refine Keeps.of_change (n := n) (fun m hm => ?_) (fun m => ?_) ?_ (fun h => ?_) (fun h w => ?_)
  · exact (fr.slot m).trans (changeState_onlySlot s n .faulted [] m hm).1
  · exact (fr.profile m).trans (fc.profile m)
  · rw [fr.slot n, changeState_slot_self]; exact changed_sen _ _
  · exact limitKept_of_frame fr (by decide) (fr .committed (by decide)).ge (changeState_limit s n .faulted [] h)
  · exact changeState_changeSound w ⟨h, fun h => Bool.noConfusion h, Or.inr (Or.inl rfl)⟩ (Or.inr (fun e he => (ew e he).2))
      (fun e he => (ew e he).1) fr

theorem completeAll_keeps (s : State) (rs : List Record) (st : Record → Status) (h : Bool) : Keeps P s (s.completeAll rs st h) :=
  Keeps.of_frame (completeAll_frame s rs st h)

theorem enterFaulted_keeps (s : State) (n : Slot) (k : FaultKind) : Keeps (s.unheld n) s (s.enterFaulted n k) := by
  unfold State.enterFaulted
  exact ((((((faultChange_keeps s n).andThen (Keeps.of_frame (setAtt_frame _ n _))).andThen
    (Keeps.of_frame (setQueue_frame _ n _))).andThen (completeAll_keeps _ _ _ _)).andThen
    (Keeps.of_frame (attentionAtFault_frame _ n))).andThen (Keeps.of_frame (reportFault_frame _ n _ _ _ _)))

/-! ## Shedding edges -/

theorem Keeps.of_limit {a : List Field} (f : Unchanged a s t) (hl : s.limitKept → t.limitKept)
    (ha : ∀ f ∈ weighedFields, f ∉ [Field.shedding, .budget, .supplyTaken] → f ∉ a := by decide) : Keeps P s t := by
  have eu : s.useOrder = t.useOrder := f .useOrder (ha _ (by decide) (by decide))
  have ew : s.wake = t.wake := f .wake (ha _ (by decide) (by decide))
  have ex : s.exchange = t.exchange := f .exchange (ha _ (by decide) (by decide))
  have ek : s.control = t.control := f .control (ha _ (by decide) (by decide))
  refine Keeps.of_alike (fun m => ?_) (fun m => f.profile m (ha _ (by decide) (by decide)))
    (f .committed (ha _ (by decide) (by decide))).symm hl ?_ ?_ ?_ (fun hn => eu ▸ hn)
  · rw [f.slot m (ha _ (by decide) (by decide))]; exact SlotRecord.Alike.refl _
  · exact fun _ e he => Or.inl ⟨e, ew ▸ he, rfl⟩
  · exact fun _ c hc => Or.inl (ek ▸ hc)
  · exact fun _ _ e he => Or.inl (ex ▸ he)

theorem endShedding_keeps (s : State) (c : ShedEndCause) (h : s.committed ≤ s.effectiveLimit) : Keeps P s (s.endShedding c) := by
  have f := endShedding_frame s c
  refine Keeps.of_limit f (fun _ _ => ?_)
  rw [← (f .committed (by decide) : s.committed = _), f.effectiveLimit]
  exact h

theorem activateShedding_sheds (s : State) (c : ActivationCause) : (s.activateShedding c).sheds = true := by
  have h : ∀ (t : State) (x : Notice), t.sheds = true → (t.raise x).markPass.sheds = true := fun t x ht => by
    rw [(markPass_frame _).sheds, (raise_frame _ _).sheds, ht]
  exact h _ _ rfl

/-- A limit set anew is answered so that the law of the limit holds again, whatever it was before. -/
theorem limitSet_limit (s : State) (old : Nat) (c : ActivationCause) :
    (s.limitSet old c).limitKept := by
  have f := limitSet_frame s old c
  have ec : s.committed = (s.limitSet old c).committed := f .committed (by decide)
  have el := f.effectiveLimit
  intro hs
  rw [← ec, el]
  by_cases hle : s.committed ≤ s.effectiveLimit
  · exact hle
  · refine absurd hs ?_
    have hlt : s.effectiveLimit < s.committed := Nat.not_le.mp hle
    cases hsh : s.sheds with
    | true =>
      have : (s.limitSet old c).sheds = true := by
        simp only [State.limitSet, hsh, hle, and_false, if_true, if_false]
        split
        · exact hsh
        · rw [(markPass_frame s).sheds]; exact hsh
      simp [this]
    | false =>
      have : (s.limitSet old c).sheds = true := by
        simp only [State.limitSet, hsh, hlt, if_true, Bool.false_eq_true, if_false]
        exact activateShedding_sheds s c
      simp [this]

theorem markEvaluation_keeps (s : State) : Keeps P s s.markEvaluation := Keeps.of_frame (markEvaluation_frame s)

theorem markPass_keeps (s : State) : Keeps P s s.markPass := Keeps.of_frame (markPass_frame s)

/-! ## The end of an event -/

theorem finish_keeps (s t : State) : Keeps True t (s.finish t) := by
  dsimp only [State.finish]
  generalize h2 : (if newCandidate s t.serveClaims = true then t.serveClaims.markEvaluation else t.serveClaims) = t2
  have k2 : Keeps True t t2 := by
    rw [← h2]
    exact (serveClaims_keeps t).andThen (Keeps.ite (fun _ => markEvaluation_keeps _) (fun _ => Keeps.refl _ _))
  generalize h3 : (if courseChanged s t2 = true then t2.markPass else t2) = t3
  have k3 : Keeps True t t3 := by
    rw [← h3]
    exact k2.andThen (Keeps.ite (fun _ => markPass_keeps _) (fun _ => Keeps.refl _ _))
  exact Keeps.ite (fun h => k3.andThen (endShedding_keeps t3 _ h.2.2)) (fun _ => k3)

end Sys2Proof.Machine
end

section
/-! What the grants, the drains and the other operations on one slot leave, field by field. -/

set_option Elab.async false

namespace Sys2Proof.Machine

variable {s t : State} {a b : List Field}

/-! ## Frames made smaller -/

/-- A field that is known to be the same leaves the list of a frame. -/
theorem Unchanged.without (f : Field) (h : Unchanged a s t) (hf : f.same s t) (hb : ∀ g ∈ a, g = f ∨ g ∈ b) : Unchanged b s t :=
  fun g hg => by
    by_cases e : g = f
    · exact e ▸ hf
    · exact h g (fun hm => (hb g hm).elim e hg)

/-- A change of state that lowers no charge and does not come to rest or to a fault. -/
theorem changeState_frame_held (s : State) (n : Slot) (new : SlotState) (x : List Byte)
    (hc : (s.slot n).charge ≤ ((s.slot n).changed new).charge) (hn : ¬ (new = .slumber ∨ new = .off ∨ new = .faulted)) :
    Unchanged [.slots, .useOrder, .control, .notices, .lostCount, .firstLoss] s (s.changeState n new x) := by
  dsimp only [State.changeState]
  rw [if_neg hn, State.release, if_neg (Nat.not_lt.mpr hc)]
  refine ((reportChange_frame s n new x).mono (by decide)).trans ?_
  intro f hf; cases f <;> first | rfl | exact absurd (by decide) hf

/-- The same for the states that leave the use-order list alone. -/
theorem changeState_frame_kept (s : State) (n : Slot) (new : SlotState) (x : List Byte)
    (hc : (s.slot n).charge ≤ ((s.slot n).changed new).charge)
    (hn : new = .powering ∨ new = .waking ∨ new = .draining ∨ new = .awake ∧ (s.slot n).state = .draining) :
    Unchanged [.slots, .control, .notices, .lostCount, .firstLoss] s (s.changeState n new x) := by
  have hne : ¬ (new = .slumber ∨ new = .off ∨ new = .faulted) := by
    rcases hn with h | h | h | h
    · subst h; decide
    · subst h; decide
    · subst h; decide
    · rw [h.1]; decide
  refine (changeState_frame_held s n new x hc hne).without .useOrder ?_ (by decide)
  show s.useOrder = _
  rw [changeState_useOrder]
  rcases hn with h | h | h | ⟨h, hd⟩
  · subst h; rfl
  · subst h; rfl
  · subst h; rfl
  · subst h; simp [useOrderAfter, hd]

/-! ## The step countdown and the exchange of a slot that comes up -/

theorem loadPoll_slot (s : State) (n : Slot) (p : StepPurpose) (ms : Nat) (hr : s.restarting = false) :
    (s.loadPoll n p ms).slot n =
      { s.slot n with step := if ms = 0 then (s.slot n).step else some { purpose := p, ms := ms } } := by
  by_cases h : ms = 0
  · have f := askControl_frame s n .identify
    simp [State.loadPoll, hr, h, f.slot n]
  · simp [State.loadPoll, hr, h]

theorem loadPoll_control (s : State) (n : Slot) (p : StepPurpose) (ms : Nat) (hr : s.restarting = false)
    (hs : s.stopped = false) :
    (s.loadPoll n p ms).control = s.control ++ if ms = 0 then [{ slot := n, command := .identify }] else [] := by
  by_cases h : ms = 0 <;> simp [State.loadPoll, State.askControl, hr, hs, h]

theorem loadPoll_onlySlot (s : State) (n : Slot) (p : StepPurpose) (ms : Nat) : OnlySlot n s (s.loadPoll n p ms) := by
  unfold State.loadPoll
  split
  · exact OnlySlot.refl n s
  · split
    · exact (askControl_frame s n _).onlySlot n (by decide) (by decide) (by decide) (by decide)
    · exact setSlot_onlySlot s n _

/-! ## Grants -/

/-- A slot record when a grant has reached it, but for its countdowns (R5, R9). -/
def SlotRecord.granted (r : SlotRecord) (new : SlotState) (w : PowerFields) : SlotRecord :=
  { r.changed new with grantedAwake := w.awake, grantedStandby := w.standby }

theorem powerUpGrant_slot (s : State) (n : Slot) (hr : s.restarting = false) :
    (s.powerUpGrant n).slot n =
      { (s.slot n).granted .powering (s.profile n).power with
        limit := some (s.profile n).power.powerUpTimeout
        step := if (s.profile n).power.powerUpDelay = 0 then none
          else some { purpose := .powerUpDelay, ms := (s.profile n).power.powerUpDelay } } := by
  have f := changeState_frame (s.setSlot n
    { s.slot n with grantedAwake := (s.profile n).power.awake, grantedStandby := (s.profile n).power.standby }) n .powering []
  dsimp only [State.powerUpGrant]
  rw [loadPoll_slot _ _ _ _ (by simpa using f.restarting.trans hr)]
  simp [SlotRecord.granted, SlotRecord.changed]

/-- A power-up grant that reaches a slot in OFF releases nothing. -/
theorem powerUpGrant_frame (s : State) (n : Slot) (h : (s.slot n).state = .off) :
    Unchanged [.slots, .control, .notices, .lostCount, .firstLoss] s (s.powerUpGrant n) := by
  dsimp only [State.powerUpGrant]
  refine Unchanged.trans ?_ ((loadPoll_frame _ n _ _).mono (by decide))
  refine Unchanged.trans ?_ ((setSlot_frame _ n _).mono (by decide))
  refine Unchanged.trans ((setSlot_frame s n _).mono (by decide)) (changeState_frame_kept _ n .powering [] ?_ (Or.inl rfl))
  simp [SlotRecord.charge, h]

theorem powerUpGrant_onlySlot (s : State) (n : Slot) : OnlySlot n s (s.powerUpGrant n) :=
  (((setSlot_onlySlot s n _).trans (changeState_onlySlot _ n .powering [])).trans (setSlot_onlySlot _ n _)).trans
    (loadPoll_onlySlot _ n _ _)

theorem powerUpGrant_control (s : State) (n : Slot) (hr : s.restarting = false) (hs : s.stopped = false) :
    (s.powerUpGrant n).control = s.control.filter (fun x => x.slot != n) ++
      if (s.profile n).power.powerUpDelay = 0 then [{ slot := n, command := .identify }] else [] := by
  have f := changeState_frame (s.setSlot n
    { s.slot n with grantedAwake := (s.profile n).power.awake, grantedStandby := (s.profile n).power.standby }) n .powering []
  have hst : s.stopped = _ := f .stopped (by decide)
  dsimp only [State.powerUpGrant]
  rw [loadPoll_control _ _ _ _ (by simpa using f.restarting.trans hr) (by simpa using hst.symm.trans hs)]
  simp [changeState_control]

theorem wakeGrant_slot (s : State) (n : Slot) :
    (s.wakeGrant n).slot n = { (s.slot n).granted .waking (s.profile n).power with
      limit := some (s.profile n).power.wakeTimeout } := by
  dsimp only [State.wakeGrant]
  rw [(askControl_frame _ n _).slot n]
  simp [SlotRecord.granted, SlotRecord.changed]

/-- A wake grant releases nothing, since a slot's standby weight is within its awake weight. -/
theorem wakeGrant_frame (s : State) (n : Slot) (h : (s.slot n).state = .slumber)
    (hg : (s.slot n).grantedStandby ≤ (s.slot n).grantedAwake) :
    Unchanged [.slots, .control, .notices, .lostCount, .firstLoss] s (s.wakeGrant n) := by
  dsimp only [State.wakeGrant]
  refine Unchanged.trans ?_ ((askControl_frame _ n _).mono (by decide))
  refine Unchanged.trans ?_ ((setSlot_frame _ n _).mono (by decide))
  refine changeState_frame_kept s n .waking [] ?_ (Or.inr (Or.inl rfl))
  simpa [SlotRecord.charge, SlotRecord.changed, h] using hg

theorem wakeGrant_onlySlot (s : State) (n : Slot) : OnlySlot n s (s.wakeGrant n) :=
  ((changeState_onlySlot s n .waking []).trans (setSlot_onlySlot _ n _)).trans
    ((askControl_frame _ n _).onlySlot n (by decide) (by decide) (by decide) (by decide))

theorem wakeGrant_control (s : State) (n : Slot) (hs : s.stopped = false) :
    (s.wakeGrant n).control = s.control.filter (fun x => x.slot != n) ++ [{ slot := n, command := .wake }] := by
  have hst : s.stopped = _ := (changeState_frame s n .waking []) .stopped (by decide)
  simp [State.wakeGrant, State.askControl, ← hst, hs, changeState_control]

/-! ## Drains -/

theorem gainAtRest_onlySlot (s : State) (n : Slot) (x : Bool) : OnlySlot n s (s.gainAtRest n x) :=
  (gainAtRest_frame s n x).onlySlot n (by decide) (by decide) (by decide) (by decide)

theorem enterOff_onlySlot (s : State) (n : Slot) (x : Bool) : OnlySlot n s (s.enterOff n x) :=
  ((changeState_onlySlot s n .off []).trans (attentionAtOff_onlySlot _ n)).trans (gainAtRest_onlySlot _ n x)

theorem towardsRest_onlySlot (s : State) (n : Slot) : OnlySlot n s (s.towardsRest n) := by
  unfold State.towardsRest
  split
  · split
    · exact enterOff_onlySlot s n _
    · exact (askControl_frame s n _).onlySlot n (by decide) (by decide) (by decide) (by decide)
  · exact OnlySlot.refl n s

theorem startDrain_onlySlot (s : State) (n : Slot) (c : DrainCause) (m : RestMode) : OnlySlot n s (s.startDrain n c m) := by
  unfold State.startDrain
  exact ((changeState_onlySlot s n .draining _).trans (setSlot_onlySlot _ n _)).trans (towardsRest_onlySlot _ n)

theorem switchOff_onlySlot (s : State) (n : Slot) (k : SwitchOffKind) : OnlySlot n s (s.switchOff n k) := by
  unfold State.switchOff
  split
  · exact setSlot_onlySlot s n _
  · exact enterOff_onlySlot s n _

theorem convertDrain_onlySlot (s : State) (n : Slot) (c : DrainCause) : OnlySlot n s (s.convertDrain n c) :=
  setSlot_onlySlot s n _

theorem evict_onlySlot (s : State) (n : Slot) : OnlySlot n s (s.evict n) := by
  unfold State.evict
  split
  · exact convertDrain_onlySlot s n _
  · exact startDrain_onlySlot s n _ _

theorem shedSlot_onlySlot (s : State) (n : Slot) : OnlySlot n s (s.shedSlot n) := by
  unfold State.shedSlot
  split
  · exact convertDrain_onlySlot s n _
  · exact startDrain_onlySlot s n _ _
  · exact switchOff_onlySlot s n _
  · exact switchOff_onlySlot s n _
  · exact switchOff_onlySlot s n _
  · exact OnlySlot.refl n s
  · exact OnlySlot.refl n s
  · exact OnlySlot.refl n s

theorem evict_frame (s : State) (n : Slot) : Unchanged wakingFields s (s.evict n) := by
  unfold State.evict
  exact Unchanged.ite (fun _ => (convertDrain_frame s n _).mono (by decide)) (fun _ => startDrain_frame s n _ _)

theorem shedSlot_frame (s : State) (n : Slot) : Unchanged wakingFields s (s.shedSlot n) := by
  unfold State.shedSlot
  split
  · exact (convertDrain_frame s n _).mono (by decide)
  · exact startDrain_frame s n _ _
  · exact switchOff_frame s n _
  · exact switchOff_frame s n _
  · exact switchOff_frame s n _
  · exact Unchanged.refl _ s
  · exact Unchanged.refl _ s
  · exact Unchanged.refl _ s

/-! ## The initial part of an eviction -/

theorem shortestPrefix_prefix (r : Slot → Nat) : ∀ (l : List Slot) (need : Nat) (ns : List Slot),
    shortestPrefix r need l = some ns → ns <+: l
  | l, 0, ns, h => by
    simp only [shortestPrefix, Option.some.injEq] at h
    exact h ▸ List.nil_prefix
  | [], k + 1, ns, h => by simp [shortestPrefix] at h
  | n :: l, k + 1, ns, h => by
    simp only [shortestPrefix, Option.map_eq_some_iff] at h
    obtain ⟨ns', h', rfl⟩ := h
    exact List.cons_prefix_cons.mpr ⟨rfl, shortestPrefix_prefix r l _ ns' h'⟩

end Sys2Proof.Machine
end

section
/-! Weights, SEN lines and the limit: the evaluation, the selection pass and the chain. -/

set_option Elab.async false

namespace Sys2Proof.Machine

variable {P : Prop} {s t u : State}

/-! ## Grants -/

/-- The first half of a grant (R42): committed weight rises, and the entry is removed. -/
def State.grantStart (s : State) (n : Slot) : State :=
  { s with committed := s.committed + s.increment n, wake := s.wake.filter (fun e => e.slot != n) }

theorem grantStart_frame (s : State) (n : Slot) : Unchanged [.committed, .wake] s (s.grantStart n) := by
  intro f hf; cases f <;> first | rfl | exact absurd (by decide) hf

theorem grant_of_off {n : Slot} (h : (s.slot n).state = .off) : s.grant n = (s.grantStart n).powerUpGrant n := by
  simp only [State.grant, h, State.grantStart]

theorem grant_of_slumber {n : Slot} (h : (s.slot n).state = .slumber) : s.grant n = (s.grantStart n).wakeGrant n := by
  simp only [State.grant, h, State.grantStart]

/-- No grant reaches a slot that does not rest. -/
theorem grant_of_notResting {n : Slot} (h : (s.slot n).state.resting = false) : s.grant n = s.grantStart n := by
  cases hs : (s.slot n).state <;> simp_all [State.grant, State.grantStart, SlotState.resting]

theorem loadPoll_alike (s : State) (n : Slot) (p : StepPurpose) (ms : Nat) : (s.slot n).Alike ((s.loadPoll n p ms).slot n) := by
  unfold State.loadPoll
  split
  · exact SlotRecord.Alike.refl _
  · split
    · rw [(askControl_frame s n _).slot n]; exact SlotRecord.Alike.refl _
    · rw [updateSlot_eq, setSlot_slot_self]; exact ⟨rfl, rfl, rfl, rfl⟩

theorem powerUpGrant_alike (s : State) (n : Slot) :
    ((s.slot n).granted .powering (s.profile n).power).Alike ((s.powerUpGrant n).slot n) := by
  dsimp only [State.powerUpGrant]
  refine SlotRecord.Alike.trans ?_ (loadPoll_alike _ n _ _)
  rw [updateSlot_eq, setSlot_slot_self, changeState_slot_self, updateSlot_eq, setSlot_slot_self]
  exact ⟨rfl, rfl, rfl, rfl⟩

theorem wakeGrant_alike (s : State) (n : Slot) :
    ((s.slot n).granted .waking (s.profile n).power).Alike ((s.wakeGrant n).slot n) := by
  rw [wakeGrant_slot]; exact ⟨rfl, rfl, rfl, rfl⟩

theorem mem_loadPoll_control {n : Slot} {p : StepPurpose} {ms : Nat} {c : ControlEntry}
    (h : c ∈ (s.loadPoll n p ms).control) : c ∈ s.control ∨ c = { slot := n, command := .identify } := by
  unfold State.loadPoll at h
  split at h
  · exact Or.inl h
  · split at h
    · exact mem_askControl h
    · exact Or.inl h

theorem mem_changeState_control {n : Slot} {new : SlotState} {x : List Byte} {c : ControlEntry}
    (h : c ∈ (s.changeState n new x).control) : c ∈ s.control ∧ c.slot ≠ n := by
  rw [changeState_control] at h
  simpa using h

theorem mem_powerUpGrant_control {n : Slot} {c : ControlEntry} (h : c ∈ (s.powerUpGrant n).control) :
    c ∈ s.control ∧ c.slot ≠ n ∨ c = { slot := n, command := .identify } := by
  refine (mem_loadPoll_control h).imp (fun h => ?_) id
  exact mem_changeState_control (s := s.setSlot n _) h

theorem mem_wakeGrant_control {n : Slot} {c : ControlEntry} (h : c ∈ (s.wakeGrant n).control) :
    c ∈ s.control ∧ c.slot ≠ n ∨ c = { slot := n, command := .wake } :=
  (mem_askControl h).imp (fun h => mem_changeState_control h) id

theorem powerUpGrant_limit (n : Slot) (h : s.limitKept) : (s.powerUpGrant n).limitKept := by
  refine limitKept_of_frame (loadPoll_frame _ n _ _) (by decide) ((loadPoll_frame _ n _ _) .committed (by decide)).ge ?_
  refine limitKept_of_frame (setSlot_frame _ n _) (by decide) (Nat.le_refl _) ?_
  exact changeState_limit _ n _ _ (limitKept_of_frame (setSlot_frame s n _) (by decide) (Nat.le_refl _) h)

theorem wakeGrant_limit (n : Slot) (h : s.limitKept) : (s.wakeGrant n).limitKept := by
  refine limitKept_of_frame (askControl_frame _ n _) (by decide) ((askControl_frame _ n _) .committed (by decide)).ge ?_
  exact limitKept_of_frame (setSlot_frame _ n _) (by decide) (Nat.le_refl _) (changeState_limit s n _ _ h)

/-- The increment of a grant brings a resting slot's charge to its awake weight (R2, R29). -/
theorem charge_add_increment {n : Slot} (hg : s.grantsSound) (hr : (s.slot n).state.resting = true) :
    (s.slot n).charge + s.increment n = (s.profile n).power.awake := by
  obtain ⟨hle, hgr⟩ := hg n
  cases hs : (s.slot n).state with
  | off => simp [SlotRecord.charge, State.increment, hs]
  | slumber =>
    have := (hgr (by rw [hs]; rfl)).2
    simp only [SlotRecord.charge, State.increment, hs, if_true]
    omega
  | powering => simp [hs, SlotState.resting] at hr
  | waking => simp [hs, SlotState.resting] at hr
  | awake => simp [hs, SlotState.resting] at hr
  | draining => simp [hs, SlotState.resting] at hr
  | settling => simp [hs, SlotState.resting] at hr
  | faulted => simp [hs, SlotState.resting] at hr

/-- A grant that takes the slot to a state `new` charged its awake weight, as POWERING and WAKING are. -/
theorem granted_changeSound {n : Slot} {new : SlotState} (w : s.weightsSound) (hr : (s.slot n).state.resting = true)
    (hnew : new = .powering ∨ new = .waking) (f : Unchanged [.slots, .control, .notices, .lostCount, .firstLoss] (s.grantStart n) u)
    (hu : ((s.slot n).granted new (s.profile n).power).Alike (u.slot n))
    (hk : ∀ c ∈ u.control, c ∈ s.control ∧ c.slot ≠ n ∨ c.slot = n ∧ controlSound true c.command new) : ChangeSound n s u := by
  have hstate : (u.slot n).state = new := hu.1
  have hcharge : (u.slot n).charge = (s.profile n).power.awake := by
    rw [hu.charge]
    rcases hnew with h | h <;> subst h <;> rfl
  have hinc := charge_add_increment w.2.1 hr
  have hfree : s.unheld n := unheld_of_state w (by revert hr; cases (s.slot n).state <;> decide)
    (fun h => by rw [h] at hr; exact Bool.noConfusion hr)
  refine ⟨?_, fun _ => ⟨hu.2.1, hu.2.2.1⟩, fun e he => ?_, fun c hc => ?_, fun e he => ?_, ?_⟩
  · rw [← (f .committed (by decide) : _ = u.committed), hcharge, ← hinc]
    show s.committed + s.increment n + _ = _
    omega
  · rw [← (f .wake (by decide) : _ = u.wake)] at he
    exact Or.inl (by simpa [State.grantStart] using he)
  · rcases hk c hc with h | ⟨hn, hcs⟩
    · exact Or.inl h
    · right; rw [hn, hstate]; exact hcs
  · rw [← (f .exchange (by decide) : _ = u.exchange)] at he
    by_cases hn : e.slot = n
    · exact Or.inr (hfree e he hn _)
    · exact Or.inl ⟨he, hn⟩
  · rw [← (f .useOrder (by decide) : _ = u.useOrder)]
    exact w.2.2.2.2.2

/-- The grant of an entry that fits. -/
theorem grant_keeps (s : State) (n : Slot) (hfit : s.committed + s.increment n ≤ s.effectiveLimit) :
    Keeps ((s.slot n).state.resting = true) s (s.grant n) := by
  have hl : (s.grantStart n).limitKept := fun _ => hfit
  have fs := grantStart_frame s n
  by_cases hr : (s.slot n).state.resting = true
  · have hoff : (s.slot n).state = .off ∨ (s.slot n).state = .slumber := by
      revert hr; cases (s.slot n).state <;> decide
    rcases hoff with hs | hs
    · rw [grant_of_off hs]
      have ha := powerUpGrant_alike (s.grantStart n) n
      have hO := powerUpGrant_onlySlot (s.grantStart n) n
      refine Keeps.of_change (n := n) (fun m hm => (hO m hm).1) (fun m => (powerUpGrant_frame (s.grantStart n) n hs).profile m) ?_
        (fun _ => powerUpGrant_limit n hl) (fun _ w => ?_)
      · rw [ha.2.2.2, ha.1]; rfl
      · refine granted_changeSound w hr (Or.inl rfl) (powerUpGrant_frame _ n hs) ha (fun c hc => ?_)
        exact (mem_powerUpGrant_control hc).imp id (fun h => by subst h; exact ⟨rfl, rfl⟩)
    · rw [grant_of_slumber hs]
      have ha := wakeGrant_alike (s.grantStart n) n
      have hO := wakeGrant_onlySlot (s.grantStart n) n
      refine Keeps.of_change (n := n) (fun m hm => (hO m hm).1) (fun m => ?_) ?_ (fun _ => wakeGrant_limit n hl) (fun _ w => ?_)
      · exact (askControl_frame _ n _).profile m |>.trans ((changeState_frame (s.grantStart n) n .waking []).profile m)
      · rw [ha.2.2.2, ha.1]; rfl
      · have hst := (w.2.1 n).2 (by rw [hs]; rfl)
        refine granted_changeSound w hr (Or.inr rfl) (wakeGrant_frame _ n hs ?_) ha (fun c hc => ?_)
        · show (s.slot n).grantedStandby ≤ (s.slot n).grantedAwake
          rw [hst.1, hst.2]; exact (w.2.1 n).1
        · exact (mem_wakeGrant_control hc).imp id (fun h => by subst h; exact ⟨rfl, rfl⟩)
  · rw [grant_of_notResting (by simpa using hr)]
    exact ⟨fun h => absurd h hr, fun _ => hl, fun h m => h m⟩

/-! ## Evaluation -/

theorem countPass_keeps (s : State) (n : Slot) : Keeps True s (s.countPass n) := by
  refine Keeps.of_wake (a := [.wake]) ?_ (fun e he => ?_)
  · intro f hf; cases f <;> first | rfl | exact absurd (by decide) hf
  · obtain ⟨x, hx, rfl⟩ := List.mem_map.mp he
    refine ⟨x, hx, ?_⟩
    split <;> rfl

theorem candidate_inUse {n : Slot} (h : s.candidate n = true) : (s.slot n).state = .awake ∨ (s.slot n).state = .draining := by
  simp only [State.candidate, State.idleSlot, Bool.and_eq_true, Bool.or_eq_true, beq_iff_eq] at h
  exact h.1.1.1.1.imp id idleDraining_state

theorem evict_keeps (s : State) (n : Slot) :
    Keeps ((s.slot n).state = .awake ∨ (s.slot n).state = .draining) s (s.evict n) := by
  unfold State.evict
  exact Keeps.ite (fun _ => (convertDrain_keeps s n _).of_true)
    (fun hd => (startDrain_keeps s n _ _).under (fun h _ => h.resolve_right hd))

theorem evictAll_keeps : ∀ (ns : List Slot) (s : State),
    Keeps (ns.Nodup ∧ ∀ n ∈ ns, (s.slot n).state = .awake ∨ (s.slot n).state = .draining) s (ns.foldl State.evict s)
  | [], s => Keeps.refl _ s
  | n :: ns, s => by
    have h1 : Keeps ((n :: ns).Nodup ∧ ∀ m ∈ n :: ns, (s.slot m).state = .awake ∨ (s.slot m).state = .draining) s (s.evict n) :=
      (evict_keeps s n).under (fun h _ => h.2 n List.mem_cons_self)
    refine h1.trans (evictAll_keeps ns (s.evict n)) (fun h _ _ => ⟨(List.nodup_cons.mp h.1).2, fun m hm => ?_⟩)
    have hne : m ≠ n := fun e => (List.nodup_cons.mp h.1).1 (e ▸ hm)
    rw [(evict_onlySlot s n m hne).1]
    exact h.2 m (List.mem_cons_of_mem n hm)

theorem mem_eligibleOrder {e : WakeEntry} (h : e ∈ s.eligibleOrder) : e ∈ s.wake := by
  have := List.mem_of_mem_filter h
  rcases List.mem_append.mp this with h | h
  · exact List.mem_of_mem_filter h
  · exact List.mem_of_mem_filter h

theorem fits_le {e : WakeEntry} (h : s.fits e = true) : s.committed + s.increment e.slot ≤ s.effectiveLimit := by
  simpa [State.fits] using h

theorem setEvictionSet_frame (s : State) (l : List Slot) : Unchanged [.evictionSet] s { s with evictionSet := l } := by
  intro f hf; cases f <;> first | rfl | exact absurd (by decide) hf

theorem evictionPrefix_prefix {e : WakeEntry} {ns : List Slot} (h : s.evictionPrefix e = some ns) : ns <+: s.evictionWalk :=
  shortestPrefix_prefix _ _ _ _ h

theorem evaluate_keeps : ∀ (fuel : Nat) (s : State), Keeps True s (State.evaluate fuel s)
  | 0, s => Keeps.refl True s
  | fuel + 1, s => by
    unfold State.evaluate
    split
    · exact Keeps.refl True s
    · rename_i head others hel
      have hmem : ∀ e ∈ head :: others, e ∈ s.wake := fun e he => mem_eligibleOrder (hel ▸ he)
      split
      · rename_i hfit
        refine Keeps.andThen ((grant_keeps s head.slot (fits_le hfit)).under (fun _ w => ?_)) (evaluate_keeps fuel _)
        exact w.2.2.1 head (hmem head List.mem_cons_self)
      · split
        · exact Keeps.refl True s
        · split
          · rename_i ns hns
            have hpre := evictionPrefix_prefix hns
            refine Keeps.trans (Keeps.of_frame (setEvictionSet_frame s ns)) (evictAll_keeps ns _) (fun _ w _ => ⟨?_, ?_⟩)
            · exact (w.2.2.2.2.2.filter _).sublist hpre.sublist
            · exact fun n hn => candidate_inUse (List.mem_filter.mp (hpre.subset hn)).2
          · split
            · split
              · rename_i e he
                have hfit : (s.countPass head.slot).fits e = true := List.find?_some he
                refine Keeps.andThen (Keeps.trans (countPass_keeps s head.slot) (grant_keeps _ e.slot (fits_le hfit))
                  (fun _ w _ => ?_)) (evaluate_keeps fuel _)
                exact w.2.2.1 e (hmem e (List.mem_cons_of_mem head (List.mem_of_find?_eq_some he)))
              · exact Keeps.refl True s
            · exact Keeps.refl True s

/-! ## Load shedding -/

theorem shedSlot_keeps (s : State) (n : Slot) : Keeps True s (s.shedSlot n) := by
  unfold State.shedSlot
  split
  · exact convertDrain_keeps s n _
  · rename_i h; exact (startDrain_keeps s n _ _).under (fun _ _ => h)
  · exact switchOff_keeps s n _
  · exact switchOff_keeps s n _
  · exact switchOff_keeps s n _
  · exact Keeps.refl True s
  · exact Keeps.refl True s
  · exact Keeps.refl True s

/-- One selection: the slot is acted on, and counted (R56, R60). -/
def State.selectVictim (s : State) (n : Slot) : State :=
  { s.shedSlot n with shedding := { s.shedding with victims := min 255 (s.shedding.victims + 1) } }

theorem shedSlot_shedding (s : State) (n : Slot) : (s.shedSlot n).shedding = s.shedding :=
  ((shedSlot_frame s n) .shedding (by decide)).symm

theorem selectVictim_frame (s : State) (n : Slot) : Unchanged [.shedding] (s.shedSlot n) (s.selectVictim n) := by
  intro f hf; cases f <;> first | rfl | exact absurd (by decide) hf

theorem selectVictim_sheds (s : State) (n : Slot) : (s.selectVictim n).sheds = s.sheds := rfl

theorem selectVictim_keeps (s : State) (n : Slot) : Keeps True s (s.selectVictim n) := by
  refine (shedSlot_keeps s n).andThen (Keeps.of_limit (selectVictim_frame s n) (fun h hs => ?_))
  refine h ?_
  simp only [State.sheds, shedSlot_shedding]
  exact hs

theorem selectVictims_succ (fuel : Nat) (s : State) : State.selectVictims (fuel + 1) s =
    if s.sheds = false ∨ s.projected ≤ s.effectiveLimit then s
    else match s.victimOrder with
      | [] => s
      | n :: _ =>
        if (s.selectVictim n).committed ≤ (s.selectVictim n).effectiveLimit then (s.selectVictim n).endShedding .release
        else State.selectVictims fuel (s.selectVictim n) := rfl

theorem selectVictims_keeps : ∀ (fuel : Nat) (s : State), Keeps True s (State.selectVictims fuel s)
  | 0, s => Keeps.refl True s
  | fuel + 1, s => by
    rw [selectVictims_succ]
    refine Keeps.ite (fun _ => Keeps.refl True s) (fun _ => ?_)
    split
    · exact Keeps.refl True s
    · rename_i n _ _
      refine Keeps.ite (fun h => (selectVictim_keeps s n).andThen (endShedding_keeps _ _ h)) (fun _ => ?_)
      exact (selectVictim_keeps s n).andThen (selectVictims_keeps fuel _)

end Sys2Proof.Machine
end

section
/-! Weights, SEN lines and the limit: the chain, the residency of a slot, and the attention lines. -/

set_option Elab.async false

namespace Sys2Proof.Machine

variable {P : Prop} {s t u : State}

/-! ## The chain -/

/-- A literal update of fields that leaves the slots and weights alone and ends or replaces the exchange. -/
theorem Keeps.of_exchange {a : List Field} (f : Unchanged a s t)
    (hx : P → s.weightsSound → ∀ e, t.exchange = some e →
      s.exchange = some e ∨ controlSound false e.command (s.slot e.slot).state)
    (hk : ∀ c ∈ t.control, c ∈ s.control)
    (ha : ∀ f ∈ weighedFields, f ≠ .exchange → f ≠ .control → f ∉ a := by decide) : Keeps P s t := by
  have eu : s.useOrder = t.useOrder := f .useOrder (ha _ (by decide) (by decide) (by decide))
  have ec : s.committed = t.committed := f .committed (ha _ (by decide) (by decide) (by decide))
  have ew : s.wake = t.wake := f .wake (ha _ (by decide) (by decide) (by decide))
  refine Keeps.of_alike (fun m => ?_) (fun m => f.profile m (ha _ (by decide) (by decide) (by decide))) ec.symm ?_
    (fun _ e he => Or.inl ⟨e, ew ▸ he, rfl⟩) (fun _ c hc => Or.inl (hk c hc)) hx (fun hn => eu ▸ hn)
  · rw [f.slot m (ha _ (by decide) (by decide) (by decide))]; exact SlotRecord.Alike.refl _
  · exact limitKept_of_frame f
      (fun f hf => ha f (by revert f; decide) (by revert f; decide) (by revert f; decide)) ec.ge

/-- The exchange in flight ends (R94, R103). -/
def State.freed (s : State) : State := { s with exchange := none, responseTimeout := none }

theorem freed_frame (s : State) : Unchanged [.exchange, .responseTimeout] s s.freed := by
  intro f hf; cases f <;> first | rfl | exact absurd (by decide) hf

@[simp] theorem freed_exchange (s : State) : s.freed.exchange = none := rfl

theorem freed_unheld (s : State) (n : Slot) : s.freed.unheld n := unheld_of_free rfl

theorem freed_keeps (s : State) : Keeps P s s.freed :=
  Keeps.of_exchange (freed_frame s) (fun _ _ _ he => by simp at he) (fun _ hc => hc)

theorem startControl_frame (s : State) (c : ControlEntry) (rest : List ControlEntry) :
    Unchanged [.control, .exchange] s { s with control := rest, exchange := some (controlExchange c) } := by
  intro f hf; cases f <;> first | rfl | exact absurd (by decide) hf

/-- The start of the head control exchange; a SLUMBER takes its DRAINING slot to SETTLING (R107). -/
theorem startControl_keeps (s : State) (c : ControlEntry) (rest : List ControlEntry) (hc : s.control = c :: rest) :
    Keeps True s (s.startControl c rest) := by
  have hmem : ∀ x ∈ rest, x ∈ s.control := fun x hx => hc ▸ List.mem_cons_of_mem c hx
  have fs := startControl_frame s c rest
  dsimp only [State.startControl]
  split
  · rename_i hcmd
    generalize h1 : ({ s with control := rest, exchange := some (controlExchange c) } : State) = s1 at fs ⊢
    have hctl : s1.control = rest := by subst h1; rfl
    have hex : s1.exchange = some (controlExchange c) := by subst h1; rfl
    have fc := changeState_frame s1 c.slot .settling []
    refine Keeps.of_change (n := c.slot) (fun m hm => ((changeState_onlySlot s1 c.slot .settling [] m hm).1).trans (fs.slot m))
      (fun m => (fc.profile m).trans (fs.profile m)) ?_ (fun h => ?_) (fun _ w => ?_)
    · rw [changeState_slot_self]; exact changed_sen _ _
    · exact changeState_limit s1 _ _ _ (limitKept_of_frame fs (by decide) (fs .committed (by decide)).ge h)
    · have hdr : (s.slot c.slot).state = .draining := by
        have := w.2.2.2.1 c (hc ▸ List.mem_cons_self)
        simpa [hcmd, controlSound] using this
      have hunl := unlisted_of_state w (n := c.slot) (by rw [hdr]; rfl)
      have hself := (changeState_slot_self s1 c.slot .settling []).trans (congrArg (·.changed .settling) (fs.slot c.slot))
      refine ⟨?_, fun _ => ?_, fun e he => ?_, fun x hx => ?_, fun e he => ?_, ?_⟩
      · rw [changeState_committed, hself, fs.slot c.slot, ← (fs .committed (by decide) : s.committed = _)]
        simp [SlotRecord.charge, SlotRecord.changed, hdr]
      · rw [hself]
        exact (w.2.1 c.slot).2 (by rw [hdr]; rfl)
      · rw [← (fc .wake (by decide) : s1.wake = _), ← (fs .wake (by decide) : s.wake = _)] at he
        exact Or.inl ⟨he, hunl e he⟩
      · have hx' := mem_changeState_control hx
        exact Or.inl ⟨hmem x (hctl ▸ hx'.1), hx'.2⟩
      · rw [← (fc .exchange (by decide) : s1.exchange = _), hex] at he
        right
        rw [← Option.some.inj he]
        show controlSound false c.command (((s1.changeState c.slot .settling []).slot c.slot).state)
        rw [hself, hcmd]; rfl
      · rw [changeState_useOrder, ← (fs .useOrder (by decide) : s.useOrder = _)]
        exact useOrderAfter_nodup w.2.2.2.2.2 _ _ _
  · rename_i hcmd
    refine Keeps.of_exchange fs (fun _ w e he => ?_) hmem
    right
    rw [← Option.some.inj he]
    have := w.2.2.2.1 c (hc ▸ List.mem_cons_self)
    show controlSound false c.command (s.slot c.slot).state
    cases hcc : c.command <;> simp_all [controlSound]

theorem dispatch_keeps (s : State) (n : Slot) : Keeps True s (s.dispatch n) := by
  unfold State.dispatch
  split
  · exact Keeps.refl True s
  · rename_i r rest hq
    have hqueue : Keeps True s (s.setQueue n ({ r with state := .dispatched, attempt := 0, deadline := none } :: rest)) :=
      Keeps.of_frame (setQueue_frame s n _)
    have hstop := hqueue.andThen (setSlot_keeps _ n { s.slot n with step := none } ⟨rfl, rfl, rfl, rfl⟩)
    refine hstop.andThen (Keeps.of_exchange (a := [.exchange, .roundRobin]) ?_ (fun _ _ e he => ?_) (fun _ hc => hc))
    · intro f hf; cases f <;> first | rfl | exact absurd (by decide) hf
    · right
      rw [← Option.some.inj he]
      cases hop : r.op <;> simp [dataExchange, hop, commandOf, controlSound]

theorem select_keeps (s : State) : Keeps True s s.select := by
  unfold State.select
  split
  · rename_i c rest hc; exact startControl_keeps s c rest hc
  · split
    · exact dispatch_keeps s _
    · exact Keeps.refl True s

theorem toPhase_keeps (s : State) (p : AttemptPhase) (o : Option Nat) : Keeps P s (s.toPhase p o) := by
  refine Keeps.of_exchange (a := [.exchange, .responseTimeout]) ?_ (fun _ w e he => ?_) (fun _ hc => hc)
  · intro f hf; cases f <;> first | rfl | exact absurd (by decide) hf
  · obtain ⟨e', he', rfl⟩ := Option.map_eq_some_iff.mp he
    exact Or.inr (w.2.2.2.2.1 e' he')

/-! ## The ends of exchanges -/

theorem countRetry_frame (s : State) (n : Slot) : Unchanged [.queues] s (s.countRetry n) := by
  unfold State.countRetry
  split
  · exact Unchanged.ite (fun _ => setQueue_frame s n _) (fun _ => Unchanged.refl _ s)
  · exact Unchanged.refl _ s

/-- The next attempt of the exchange `e` (R100), before its record counts it. -/
def State.resent (s : State) (e : Exchange) : State :=
  { s with exchange := some { e with attempt := e.attempt + 1, phase := .sending }, responseTimeout := none }

theorem resent_frame (s : State) (e : Exchange) : Unchanged [.exchange, .responseTimeout] s (s.resent e) := by
  intro f hf; cases f <;> first | rfl | exact absurd (by decide) hf

theorem retry_eq (s : State) (e : Exchange) :
    s.retry e = if e.command = .slumber then s.resent e else (s.resent e).countRetry e.slot := rfl

theorem retry_keeps (s : State) (e : Exchange) : Keeps (s.exchange = some e) s (s.retry e) := by
  have h : Keeps (s.exchange = some e) s (s.resent e) := by
    refine Keeps.of_exchange (resent_frame s e) (fun hs w x hx => Or.inr ?_) (fun _ hc => hc)
    rw [← Option.some.inj hx]
    exact w.2.2.2.2.1 e hs
  rw [retry_eq]
  exact Keeps.ite (fun _ => h) (fun _ => h.andThen (Keeps.of_frame (countRetry_frame _ _)))

theorem handOff_keeps (s : State) (r : Record) (st : Status) (d : List Byte) (h : Bool) : Keeps P s (s.handOff r st d h) :=
  Keeps.of_frame (handOff_frame s r st d h)

/-- The slot becomes the most recently used, if it stands in the use-order list (R18). -/
def State.used (s : State) (n : Slot) : State :=
  if n ∈ s.useOrder then { s with useOrder := s.useOrder.filter (· != n) ++ [n] } else s

theorem used_frame (s : State) (n : Slot) : Unchanged [.useOrder] s (s.used n) := by
  unfold State.used
  refine Unchanged.ite (fun _ => ?_) (fun _ => Unchanged.refl _ s)
  intro f hf; cases f <;> first | rfl | exact absurd (by decide) hf

theorem used_keeps (s : State) (n : Slot) : Keeps P s (s.used n) := by
  have f := used_frame s n
  refine Keeps.of_alike (fun m => ?_) (fun m => f.profile m) (f .committed (by decide)).symm
    (limitKept_of_frame f (by decide) (f .committed (by decide)).ge) (fun _ e he => Or.inl ⟨e, ?_, rfl⟩)
    (fun _ c hc => Or.inl ?_) (fun _ _ e he => Or.inl ?_) (fun hn => ?_)
  · rw [f.slot m]; exact SlotRecord.Alike.refl _
  · rwa [(f .wake (by decide) : s.wake = _)]
  · rwa [(f .control (by decide) : s.control = _)]
  · rwa [(f .exchange (by decide) : s.exchange = _)]
  · unfold State.used
    split
    · exact useOrderAfter_nodup hn n .off .awake
    · exact hn

/-- The data that a data exchange hands on: what a READ answered DONE has read (R87). -/
def readData (r : Record) (o : AttemptOutcome) : List Byte :=
  match o with
  | .done d => if r.op = .read then d else []
  | _ => []

theorem dataEnd_cons {n : Slot} {r : Record} {rest : List Record} (o : AttemptOutcome) (h : s.queue n = r :: rest) :
    s.dataEnd n o =
      let s2 := ((s.setQueue n rest).handOff r (outcomeStatus o) (readData r o) true).used n
      if (s2.slot n).state = .draining then s2.towardsRest n else s2.startIdleHold n := by
  unfold State.dataEnd
  rw [h]
  rfl

theorem dataEnd_nil {n : Slot} (o : AttemptOutcome) (h : s.queue n = []) : s.dataEnd n o = s := by
  unfold State.dataEnd
  rw [h]

theorem dataEnd_keeps (s : State) (n : Slot) (o : AttemptOutcome) : Keeps True s (s.dataEnd n o) := by
  cases hq : s.queue n with
  | nil => rw [dataEnd_nil o hq]; exact Keeps.refl True s
  | cons r rest =>
    rw [dataEnd_cons o hq]
    have h : Keeps True s (((s.setQueue n rest).handOff r (outcomeStatus o) (readData r o) true).used n) :=
      ((Keeps.of_frame (setQueue_frame s n _)).andThen (handOff_keeps _ _ _ _ _)).andThen (used_keeps _ n)
    exact Keeps.ite (fun _ => h.andThen (towardsRest_keeps _ n)) (fun _ => h.andThen (startIdleHold_keeps _ n))

theorem beginSensing_keeps (s : State) (n : Slot) : Keeps True s (s.beginSensing n) := by
  have h : ∀ x, Keeps True s (s.setAtt n x) := fun x => Keeps.of_frame (setAtt_frame s n x)
  dsimp only [State.beginSensing]
  exact Keeps.ite (fun _ => (h _).andThen (activation_keeps _ n)) (fun _ => h _)

theorem enterAwake_keeps (s : State) (n : Slot) (d : List Byte) :
    Keeps (s.unheld n ∧ (s.slot n).state.comingUp = true) s (s.enterAwake n d) := by
  have hc : Keeps (s.unheld n ∧ (s.slot n).state.comingUp = true) s (s.changeState n .awake d) := by
    refine (changeState_keeps s n .awake d).under (fun ⟨hu, hs⟩ _ => ⟨⟨hu, fun _ => ?_, Or.inr (Or.inr ?_)⟩, Or.inr ?_⟩)
    all_goals revert hs; cases (s.slot n).state <;> decide
  dsimp only [State.enterAwake]
  refine Keeps.andThen ?_ (startIdleHold_keeps _ n)
  refine Keeps.ite (fun _ => hc.andThen (beginSensing_keeps _ n)) (fun _ => ?_)
  exact Keeps.ite (fun _ => hc.andThen (endAction_keeps _ n _ _ _)) (fun _ => hc)

theorem identifyEnd_keeps (s : State) (n : Slot) (o : AttemptOutcome) :
    Keeps (s.unheld n ∧ (s.slot n).state.comingUp = true) s (s.identifyEnd n o) := by
  have hoff : ∀ x, Keeps (s.unheld n ∧ (s.slot n).state.comingUp = true) s (s.enterOff n x) := fun x =>
    (enterOff_keeps s n x).under (fun h _ => h.1)
  have hflt : ∀ k, Keeps (s.unheld n ∧ (s.slot n).state.comingUp = true) s (s.enterFaulted n k) := fun k =>
    (enterFaulted_keeps s n k).under (fun h _ => h.1)
  dsimp only [State.identifyEnd]
  split
  · exact hoff _
  · split
    · exact Keeps.ite (fun _ => enterAwake_keeps s n _) (fun _ => hflt _)
    · split
      · exact hflt _
      · exact (loadPoll_keeps s n _ _).under (fun h _ => h.2)

theorem wakeEnd_keeps (s : State) (n : Slot) :
    Keeps (s.unheld n ∧ (s.slot n).state.comingUp = true) s (s.wakeEnd n) := by
  unfold State.wakeEnd
  dsimp only
  split
  · exact (enterOff_keeps s n _).under (fun h _ => h.1)
  · exact (enterFaulted_keeps s n _).under (fun h _ => h.1)
  · exact (loadPoll_keeps s n _ _).under (fun h _ => h.2)

theorem slumberEnd_keeps (s : State) (n : Slot) (o : AttemptOutcome) :
    Keeps (s.unheld n ∧ (s.slot n).state.powered = true) s (s.slumberEnd n o) := by
  have hoff : ∀ x, Keeps (s.unheld n ∧ (s.slot n).state.powered = true) s (s.enterOff n x) := fun x =>
    (enterOff_keeps s n x).under (fun h _ => h.1)
  unfold State.slumberEnd
  split
  · exact Keeps.refl _ s
  · split
    · exact enterSlumber_keeps s n _
    · exact (hoff _).andThen (Keeps.of_frame (reportFault_frame _ n _ _ _ _))
    · exact hoff _

theorem exchangeEnd_eq (s : State) (e : Exchange) (o : AttemptOutcome) : s.exchangeEnd e o =
    match e.command with
    | .read => s.freed.dataEnd e.slot o
    | .write => s.freed.dataEnd e.slot o
    | .slumber => s.freed.slumberEnd e.slot o
    | .wake => s.freed.wakeEnd e.slot
    | .identify => s.freed.identifyEnd e.slot o := rfl

/-- The outcome of the exchange in flight; by the laws its slot is in the state that the command goes with. -/
theorem exchangeEnd_keeps (s : State) (e : Exchange) (o : AttemptOutcome) :
    Keeps (s.exchange = some e) s (s.exchangeEnd e o) := by
  have hf : Keeps (s.exchange = some e) s s.freed := freed_keeps s
  have hslot : s.freed.slot e.slot = s.slot e.slot := rfl
  rw [exchangeEnd_eq]
  split
  · exact hf.andThen (dataEnd_keeps _ _ _)
  · exact hf.andThen (dataEnd_keeps _ _ _)
  · rename_i hc
    refine hf.trans (slumberEnd_keeps _ _ o) (fun he w _ => ⟨freed_unheld s _, ?_⟩)
    have := w.2.2.2.2.1 e he
    simp only [hc, controlSound, Bool.false_eq_true, if_false] at this
    rw [hslot, this]; rfl
  · rename_i hc
    refine hf.trans (wakeEnd_keeps _ _) (fun he w _ => ⟨freed_unheld s _, ?_⟩)
    have := w.2.2.2.2.1 e he
    simp only [hc, controlSound] at this
    rw [hslot, this]; rfl
  · rename_i hc
    refine hf.trans (identifyEnd_keeps _ _ o) (fun he w _ => ⟨freed_unheld s _, ?_⟩)
    have := w.2.2.2.2.1 e he
    simp only [hc, controlSound] at this
    rw [hslot, this]

/-- The failure count of the exchange's slot after an attempt (R101). -/
def State.counted (s : State) (e : Exchange) (o : AttemptOutcome) : State :=
  s.setSlot e.slot { s.slot e.slot with failures := failuresAfter e.command o (s.slot e.slot).failures }

theorem attemptEnd_eq (s : State) (e : Exchange) (o : AttemptOutcome) : s.attemptEnd e o =
    if reachesThreshold e.command o (s.slot e.slot).failures s.chain.faultThreshold then
      (s.counted e o).freed.enterFaulted e.slot .faultThreshold
    else if retryCalled e.command o ∧ e.attempt < s.chain.retryLimit then (s.counted e o).retry e
    else (s.counted e o).exchangeEnd e o := rfl

theorem attemptEnd_keeps (s : State) (e : Exchange) (o : AttemptOutcome) :
    Keeps (s.exchange = some e) s (s.attemptEnd e o) := by
  have h1 : Keeps (s.exchange = some e) s (s.counted e o) := setSlot_keeps s e.slot _ ⟨rfl, rfl, rfl, rfl⟩
  rw [attemptEnd_eq]
  refine Keeps.ite (fun _ => ?_) (fun _ => Keeps.ite (fun _ => ?_) (fun _ => ?_))
  · exact (h1.andThen (freed_keeps _)).trans (enterFaulted_keeps _ _ _) (fun _ _ _ => freed_unheld _ _)
  · exact h1.trans (retry_keeps _ e) (fun h _ _ => h)
  · exact h1.trans (exchangeEnd_keeps _ e o) (fun h _ _ => h)

/-! ## Attention lines -/

theorem deactivation_keeps (s : State) (n : Slot) : Keeps True s (s.deactivation n) := by
  have ha : ∀ (s : State) x, Keeps True s (s.setAtt n x) := fun s x => Keeps.of_frame (setAtt_frame s n x)
  unfold State.deactivation
  split
  · exact ha s _
  · exact ha s _
  · exact (Keeps.of_frame (setClaims_frame s _)).andThen (ha _ _)
  · exact (withdrawReason_keeps s n _).andThen (ha _ _)
  · exact ha s _

theorem lineChange_keeps (s : State) (n : Slot) (active : Bool) : Keeps True s (s.lineChange n active) := by
  have ha : ∀ x, Keeps True s (s.setAtt n x) := fun x => Keeps.of_frame (setAtt_frame s n x)
  unfold State.lineChange
  dsimp only
  split
  · exact (ha _).andThen (activation_keeps _ n)
  · exact ha _
  · exact (ha _).andThen (deactivation_keeps _ n)

end Sys2Proof.Machine
end

section
/-! Weights, SEN lines and the limit: the takes, the restart, and every step. -/

set_option Elab.async false

namespace Sys2Proof.Machine

variable {P : Prop} {s t u : State}

/-! ## Takes -/

theorem respond_keeps (s : State) (c : Taken) (st : Status) (d : List Byte) : Keeps P s (s.respond c st d) :=
  Keeps.of_frame (respond_frame s c st d)

theorem setIngress_frame (s : State) (l : List (List Byte)) : Unchanged [.ingress] s { s with ingress := l } := by
  intro f hf; cases f <;> first | rfl | exact absurd (by decide) hf

theorem take_keeps {α : Type} {k : TakeKind} {form : List Byte → Option α} {carry : Taken → α → State → State}
    (hc : ∀ c a s, Keeps True s (carry c a s)) (h : take k form carry s = .next t) : Keeps True s t := by
  injection h with h
  subst h
  split
  · exact Keeps.refl True s
  · refine (Keeps.of_frame (setIngress_frame s s.ingress.tail)).andThen ?_
    unfold commonChecks
    split
    · exact respond_keeps _ _ _ _
    · exact Keeps.ite (fun _ => respond_keeps _ _ _ _) (fun _ => Keeps.ite (fun _ => respond_keeps _ _ _ _) (fun _ => hc _ _ _))

theorem manage_keeps {α : Type} {op : Taken → α → State → State} (hop : ∀ c a s, Keeps True s (op c a s)) (c : Taken) (a : α)
    (s : State) : Keeps True s (manage op c a s) := by
  unfold manage
  exact Keeps.ite (fun _ => respond_keeps _ _ _ _) (fun _ => hop c a s)

theorem withSlot_keeps {op : Taken → Slot → State → State} (hop : ∀ c n s, Keeps True s (op c n s)) (c : Taken) (b : Byte)
    (s : State) : Keeps True s (withSlot op c b s) := by
  unfold withSlot
  split
  · exact respond_keeps _ _ _ _
  · exact hop c _ s

/-- An operation, its answer, and the end of the event. -/
theorem finishRespond_keeps (s : State) (h : Keeps True s t) (c : Taken) (st : Status) (d : List Byte) :
    Keeps True s (s.finish (t.respond c st d)) :=
  (h.andThen (respond_keeps t c st d)).andThen (finish_keeps s _)

theorem admitData_keeps (c : Taken) (q : DataRequest) (s : State) : Keeps True s (admitData c q s) := by
  unfold admitData
  split
  · exact respond_keeps _ _ _ _
  · refine Keeps.andThen ?_ (finish_keeps s _)
    have h := joinQueue_keeps s
    exact Keeps.ite (fun _ => (h _ _).andThen (respond_keeps _ _ _ _)) (fun _ => h _ _)

/-! ## Writes of tables -/

/-- A stored profile: its standby weight is within its awake weight, and its weights change only where the slot is charged
nothing (R2, R141). -/
theorem setProfile_keeps (s : State) (n : Slot) (p : Profile) (hp : p.power.standby ≤ p.power.awake)
    (ho : p.power ≠ (s.profile n).power → (s.slot n).state.powered = false) :
    Keeps True s { s with profiles := s.profiles.set n p } := by
  have hself : ({ s with profiles := s.profiles.set n p } : State).profile n = p := by simp [State.profile]
  have hother : ∀ m, m ≠ n → ({ s with profiles := s.profiles.set n p } : State).profile m = s.profile m := fun m hm => by
    have h' : n.val ≠ m.val := fun e => hm (Fin.ext e.symm)
    simp [State.profile, h']
  refine ⟨fun _ w => ?_, fun h => h, fun h => h⟩
  obtain ⟨wsum, wgrants, wrest⟩ := w
  refine ⟨wsum, fun m => ?_, wrest⟩
  by_cases hm : m = n
  · subst hm
    rw [hself]
    refine ⟨hp, fun hpow => ?_⟩
    have heq : p.power = (s.profile m).power := by
      by_contra hne
      rw [show (s.slot m).state.powered = true from hpow] at ho
      exact Bool.noConfusion (ho hne)
    rw [heq]
    exact (wgrants m).2 hpow
  · rw [hother m hm]
    exact wgrants m

theorem idleHoldWritten_keeps (s : State) (n : Slot) (old : Nat) : Keeps True s (s.idleHoldWritten n old) := by
  unfold State.idleHoldWritten
  refine Keeps.ite (fun _ => Keeps.refl True s) (fun _ => Keeps.ite (fun _ => ?_) (fun _ => startIdleHold_keeps s n))
  exact setSlot_keeps s n _ ⟨rfl, rfl, rfl, rfl⟩

theorem readProfile_standby {bytes : List Byte} {p : Profile} (h : readProfile bytes = some p) :
    p.power.standby ≤ p.power.awake := by
  unfold readProfile at h
  split at h
  · split at h
    · exact absurd h (by simp)
    · simp only [Option.ite_none_right_eq_some, Option.some.injEq] at h
      obtain ⟨⟨-, hrange⟩, hp⟩ := h
      rw [hp] at hrange
      simp only [profileInRange, Bool.and_eq_true, decide_eq_true_eq] at hrange
      tauto
  · exact absurd h (by simp)

theorem storeProfile_keeps (s : State) (n : Slot) (p : Profile) (hp : p.power.standby ≤ p.power.awake)
    (ho : p.power ≠ (s.profile n).power → (s.slot n).state.powered = false) : Keeps True s (s.storeProfile n p) := by
  dsimp only [State.storeProfile]
  have h := (setProfile_keeps s n p hp ho).andThen (idleHoldWritten_keeps _ n (s.profile n).idleHold)
  exact Keeps.ite (fun _ => h.andThen (markEvaluation_keeps _)) (fun _ => h)

theorem powerFieldsOpen_unpowered {n : Slot} (h : s.powerFieldsOpen n = true) : (s.slot n).state.powered = false := by
  simp only [State.powerFieldsOpen, Bool.and_eq_true, Bool.or_eq_true, beq_iff_eq] at h
  rcases h.1 with h | h <;> rw [h] <;> rfl

theorem writeProfileOp_keeps (c : Taken) (a : Nat × List Byte) (s : State) : Keeps True s (writeProfileOp c a s) := by
  unfold writeProfileOp
  split
  · split
    · exact respond_keeps _ _ _ _
    · rename_i p hp
      refine Keeps.ite (fun _ => respond_keeps _ _ _ _) (fun hopen => ?_)
      refine (storeProfile_keeps s _ p (readProfile_standby hp) (fun hne => ?_)).andThen (respond_keeps _ _ _ _)
      exact powerFieldsOpen_unpowered (by simpa [hne] using hopen)
  · exact respond_keeps _ _ _ _

/-- A limit set anew (R32, R150): the answer restores the law of the limit. -/
theorem limitSet_keeps (cause : ActivationCause) (f : Unchanged [.budget, .supplyTaken] s u) (old : Nat) :
    Keeps True s (u.limitSet old cause) := by
  have f2 : Unchanged [.budget, .supplyTaken, .shedding, .evaluationDue, .passDue, .notices, .lostCount, .firstLoss] s
      (u.limitSet old cause) := f.andThen (limitSet_frame u old cause) (by decide) (by decide)
  exact Keeps.of_limit f2 (fun _ => limitSet_limit u old cause)

theorem writeBudgetOp_keeps (c : Taken) (a : Nat × List Byte) (s : State) : Keeps True s (writeBudgetOp c a s) := by
  unfold writeBudgetOp
  refine Keeps.ite (fun _ => respond_keeps _ _ _ _) (fun _ => ?_)
  split
  · exact respond_keeps _ _ _ _
  · rename_i v hv
    refine (limitSet_keeps .limitWrite ?_ s.effectiveLimit).andThen (respond_keeps _ _ _ _)
    intro f hf; cases f <;> first | rfl | exact absurd (by decide) hf

theorem takeSupplyLevel_keeps (s : State) : Keeps True s s.takeSupplyLevel := by
  unfold State.takeSupplyLevel
  refine Keeps.ite (fun _ => Keeps.refl True s) (fun _ => limitSet_keeps .supplyLow ?_ s.effectiveLimit)
  intro f hf; cases f <;> first | rfl | exact absurd (by decide) hf

end Sys2Proof.Machine
end

section
/-! Weights, SEN lines and the limit: the slot commands, the restart, and every step. -/

set_option Elab.async false

namespace Sys2Proof.Machine

variable {P : Prop} {s t u : State}

/-! ## Slot commands -/

theorem slotWakeOp_keeps (c : Taken) (a : Byte × Byte) (s : State) : Keeps True s (slotWakeOp c a s) := by
  unfold slotWakeOp
  split
  · exact respond_keeps _ _ _ _
  · exact respond_keeps _ _ _ _
  · refine Keeps.ite (fun _ => respond_keeps _ _ _ _) (fun _ => Keeps.ite (fun _ => respond_keeps _ _ _ _) (fun _ => ?_))
    refine Keeps.ite (fun hr => ?_) (fun _ => respond_keeps _ _ _ _)
    exact ((gainReason_keeps s _ _ _).under (fun _ _ => hr)).andThen (respond_keeps _ _ _ _)

theorem slotRestOp_keeps (c : Taken) (n : Slot) (s : State) : Keeps True s (slotRestOp c n s) := by
  unfold slotRestOp
  refine Keeps.ite (fun hs => Keeps.ite (fun _ => ?_) (fun _ => respond_keeps _ _ _ _)) (fun _ => respond_keeps _ _ _ _)
  exact finishRespond_keeps s ((startDrain_keeps s n _ _).under (fun _ _ => hs)) c _ _

theorem abortQueued_keeps (s : State) (n : Slot) : Keeps True s (s.abortQueued n) :=
  (Keeps.of_frame (setQueue_frame s n _)).andThen (completeAll_keeps _ _ _ _)

theorem attentionOff_keeps (s : State) (n : Slot) : Keeps True s (s.attentionOff n) := by
  unfold State.attentionOff
  split
  · exact Keeps.refl True s
  · exact Keeps.refl True s
  · exact Keeps.of_frame (setAtt_frame s n _)
  · exact (Keeps.of_frame (setClaims_frame s _)).andThen (endAction_keeps _ n _ _ _)
  · exact endAction_keeps s n _ _ _

theorem retargetOff_keeps (s : State) (n : Slot) : Keeps True s (s.retargetOff n) :=
  setSlot_keeps s n _ ⟨rfl, rfl, rfl, rfl⟩

theorem filterControl_keeps (s : State) (n : Slot) :
    Keeps True s { s with control := s.control.filter (fun x => x.slot != n) } := by
  refine Keeps.of_exchange (a := [.control]) ?_ (fun _ _ _ he => Or.inl he) (fun _ hc => List.mem_of_mem_filter hc)
  intro f hf; cases f <;> first | rfl | exact absurd (by decide) hf

theorem residencyOff_keeps (s : State) (n : Slot) : Keeps True s (s.residencyOff n) := by
  unfold State.residencyOff
  split
  · exact Keeps.refl True s
  · exact Keeps.refl True s
  · exact switchOff_keeps s n _
  · exact switchOff_keeps s n _
  · exact switchOff_keeps s n _
  · rename_i hs; exact (startDrain_keeps s n _ _).under (fun _ _ => hs)
  · exact ((retargetOff_keeps s n).andThen (filterControl_keeps _ n)).andThen (towardsRest_keeps _ n)
  · exact retargetOff_keeps s n

theorem slotOffOp_keeps (c : Taken) (n : Slot) (s : State) : Keeps True s (slotOffOp c n s) := by
  have h : Keeps True s ((((s.abortQueued n).attentionOff n).removeEntry n).residencyOff n) :=
    (((abortQueued_keeps s n).andThen (attentionOff_keeps _ n)).andThen (removeEntry_keeps _ n)).andThen
      (residencyOff_keeps _ n)
  dsimp only [slotOffOp]
  exact finishRespond_keeps s (Keeps.ite (fun _ => h.andThen (markPass_keeps _)) (fun _ => h)) c _ _

theorem pinSlot_keeps (s : State) (n : Slot) : Keeps True s (s.pinSlot n) := by
  have h : Keeps True s (s.setSlot n { s.slot n with pin := true }) := setSlot_keeps s n _ ⟨rfl, rfl, rfl, rfl⟩
  have hstate : ((s.setSlot n { s.slot n with pin := true }).slot n).state = (s.slot n).state := by simp
  have hg : (s.slot n).state.resting = true →
      Keeps True s ((s.setSlot n { s.slot n with pin := true }).gainReason n .pin .urgent) := fun hr =>
    h.trans (gainReason_keeps _ n _ _) (fun _ _ _ => by rw [hstate]; exact hr)
  unfold State.pinSlot
  dsimp only
  split
  · rename_i hs; exact hg (by rw [hs]; rfl)
  · rename_i hs; exact hg (by rw [hs]; rfl)
  · exact h.andThen (setSlot_keeps _ n _ ⟨rfl, rfl, rfl, rfl⟩)
  · rename_i hs
    exact Keeps.ite (fun _ => h.trans (cancelDrain_keeps _ n) (fun _ _ _ => hstate.trans hs)) (fun _ => h)
  · exact h
  · exact h
  · exact h
  · exact h

theorem unpinSlot_keeps (s : State) (n : Slot) : Keeps True s (s.unpinSlot n) := by
  have h : Keeps True s (s.setSlot n { s.slot n with pin := false }) := setSlot_keeps s n _ ⟨rfl, rfl, rfl, rfl⟩
  unfold State.unpinSlot
  dsimp only
  split
  · exact h.andThen (withdrawReason_keeps _ n _)
  · exact h.andThen (withdrawReason_keeps _ n _)
  · exact h.andThen (startIdleHold_keeps _ n)
  · exact h
  · exact h
  · exact h
  · exact h
  · exact h

theorem pinOp_keeps (c : Taken) (n : Slot) (s : State) : Keeps True s (pinOp c n s) := by
  unfold pinOp
  exact Keeps.ite (fun _ => respond_keeps _ _ _ _) (fun _ => finishRespond_keeps s (pinSlot_keeps s n) c _ _)

theorem unpinOp_keeps (c : Taken) (n : Slot) (s : State) : Keeps True s (unpinOp c n s) := by
  unfold unpinOp
  exact Keeps.ite (fun _ => finishRespond_keeps s (unpinSlot_keeps s n) c _ _) (fun _ => respond_keeps _ _ _ _)

theorem clearSlot_keeps (s : State) (n : Slot) : Keeps ((s.slot n).state = .faulted) s (s.clearSlot n) := by
  have hc : Keeps ((s.slot n).state = .faulted) s (s.changeState n .off []) :=
    (changeState_keeps s n .off []).under (fun h w =>
      ⟨mayRest (unheld_of_state w (by rw [h]; rfl) (by rw [h]; decide)), Or.inl rfl⟩)
  have h := hc.andThen (setSlot_keeps _ n { (s.changeState n .off []).slot n with failures := 0 } ⟨rfl, rfl, rfl, rfl⟩)
  dsimp only [State.clearSlot]
  refine Keeps.ite (fun _ => h.trans (gainReason_keeps _ n _ _) (fun _ _ _ => ?_)) (fun _ => h)
  rw [setSlot_slot_self, changeState_slot_self]
  rfl

theorem slotClearOp_keeps (c : Taken) (n : Slot) (s : State) : Keeps True s (slotClearOp c n s) := by
  unfold slotClearOp
  refine Keeps.ite (fun hs => ?_) (fun _ => respond_keeps _ _ _ _)
  exact finishRespond_keeps s ((clearSlot_keeps s n).under (fun _ _ => hs)) c _ _

/-! ## The warm restart -/

theorem restartOp_slot (c : Taken) (s : State) (n : Slot) :
    (restartOp c () s).slot n = { s.slot n with step := none, limit := none } := by
  simp [restartOp, State.slot]

theorem restartOp_keeps (c : Taken) (a : Unit) (s : State) : Keeps True s (restartOp c a s) := by
  refine Keeps.of_alike (fun m => ?_) (fun _ => rfl) rfl (fun h => h) (fun _ e he => Or.inl ⟨e, he, rfl⟩)
    (fun _ x hx => ?_) (fun _ _ e he => Or.inl he) (fun h => h)
  · rw [restartOp_slot]; exact ⟨rfl, rfl, rfl, rfl⟩
  · exact absurd hx (List.not_mem_nil)

theorem restartSlot_keeps (s : State) (n : Slot) : Keeps (s.exchange = none) s (s.restartSlot n) := by
  unfold State.restartSlot
  refine Keeps.ite (fun _ => (changeState_keeps s n .off []).under (fun h _ => ⟨mayRest (unheld_of_free h), Or.inl rfl⟩))
    (fun _ => Keeps.refl _ s)

theorem restartSlot_frame (s : State) (n : Slot) :
    Unchanged [.slots, .useOrder, .committed, .evictionSet, .evaluationDue, .control, .notices, .lostCount, .firstLoss] s
      (s.restartSlot n) := by
  unfold State.restartSlot
  exact Unchanged.ite (fun _ => changeState_frame s n .off []) (fun _ => Unchanged.refl _ s)

theorem restartSlots_keeps : ∀ (l : List Slot) (s : State), Keeps (s.exchange = none) s (l.foldl State.restartSlot s)
  | [], s => Keeps.refl _ s
  | n :: l, s => (restartSlot_keeps s n).trans (restartSlots_keeps l _)
      (fun h _ _ => ((restartSlot_frame s n) .exchange (by decide) : s.exchange = _) ▸ h)

/-- A slot record after the third step of a restart: a powered slot is in OFF (R26). -/
def SlotRecord.switchedOff (r : SlotRecord) : SlotRecord := if r.state.powered then r.changed .off else r

theorem restartSlot_slot (s : State) (n m : Slot) :
    (s.restartSlot n).slot m = if m = n then (s.slot m).switchedOff else s.slot m := by
  unfold State.restartSlot SlotRecord.switchedOff
  by_cases hm : m = n
  · subst hm
    rw [if_pos rfl]
    split
    · exact changeState_slot_self s m .off []
    · rfl
  · rw [if_neg hm]
    split
    · exact (changeState_onlySlot s n .off [] m hm).1
    · rfl

theorem restartSlots_slot : ∀ (l : List Slot), l.Nodup → ∀ (s : State) (m : Slot),
    (l.foldl State.restartSlot s).slot m = if m ∈ l then (s.slot m).switchedOff else s.slot m
  | [], _, s, m => by simp
  | n :: l, hd, s, m => by
    obtain ⟨hn, hl⟩ := List.nodup_cons.mp hd
    rw [List.foldl_cons, restartSlots_slot l hl, restartSlot_slot]
    by_cases hmn : m = n
    · subst hmn; simp [hn]
    · simp [hmn]

/-- After the third step every slot is in OFF or FAULTED (R26). -/
theorem restarted_slot (s : State) (m : Slot) : (allSlots.foldl State.restartSlot s).slot m = (s.slot m).switchedOff := by
  rw [restartSlots_slot allSlots (List.nodup_finRange 24), if_pos (mem_allSlots m)]

theorem switchedOff_unpowered (r : SlotRecord) : r.switchedOff.state.powered = false := by
  unfold SlotRecord.switchedOff
  split
  · rfl
  · simpa using ‹¬ r.state.powered = true›

theorem charge_of_unpowered {r : SlotRecord} (h : r.state.powered = false) : r.charge = 0 := by
  cases hs : r.state <;> simp_all [SlotRecord.charge, SlotState.powered]

theorem restartRest_slot (s : State) (c : Taken) (n : Slot) : (s.restartRest c).slot n = (s.slot n).restarted := by
  simp [State.restartRest, State.respond, State.slot]

/-- The last steps of the restart (R163), every slot being in OFF or FAULTED and the chain free. -/
theorem restartRest_keeps (s : State) (c : Taken) (hoff : ∀ n, (s.slot n).state.powered = false) :
    Keeps (s.exchange = none) s (s.restartRest c) := by
  refine ⟨fun hx w => ?_, fun _ _ => Nat.zero_le _, fun h n => by rw [restartRest_slot]; exact h n⟩
  refine ⟨?_, fun n => ?_, fun e he => absurd he (List.not_mem_nil), fun x hxc => ?_, fun e he => ?_, List.nodup_nil⟩
  · have hz : ∀ n, ((s.restartRest c).slot n).charge = 0 := fun n => by
      rw [restartRest_slot]; exact charge_of_unpowered (r := (s.slot n).restarted) (hoff n)
    show 0 = ((allSlots.map (fun n => ((s.restartRest c).slot n).charge))).sum
    simp [hz]
  · rw [restartRest_slot]
    exact ⟨(w.2.1 n).1, fun hp => absurd hp (by rw [show ((s.slot n).restarted).state = (s.slot n).state from rfl, hoff n]; simp)⟩
  · rw [restartRest_slot]
    exact w.2.2.2.1 x hxc
  · exact absurd (hx.symm.trans he) (by simp)

theorem restartNotices_frame (s : State) : Unchanged [.notices, .lostCount, .firstLoss] s s.restartNotices := by
  unfold State.restartNotices
  refine Unchanged.trans ?_ (raise_frame _ _)
  intro f hf; cases f <;> first | rfl | exact absurd (by decide) hf

theorem restartRecords_frame (s : State) (n : Slot) :
    Unchanged [.queues, .responses, .attention, .notices, .lostCount, .firstLoss] s (s.restartRecords n) :=
  (setQueue_frame s n []).andThen (completeAll_frame _ _ _ _) (by decide) (by decide)

/-- The state after the first three steps' notices and records (R163): the slots have not changed yet. -/
def State.restartCleared (s : State) : State :=
  { allSlots.foldl State.restartRecords s.restartNotices with claims := [] }

theorem completeRestart_eq (s : State) (c : Taken) :
    s.completeRestart c = (allSlots.foldl State.restartSlot s.restartCleared).restartRest c := rfl

theorem restartCleared_frame (s : State) :
    Unchanged [.queues, .responses, .attention, .notices, .lostCount, .firstLoss, .claims] s s.restartCleared :=
  (((restartNotices_frame s).mono (by decide)).trans
    ((Unchanged.foldl restartRecords_frame _ _).mono (by decide))).trans ((setClaims_frame _ []).mono (by decide))

theorem completeRestart_keeps (s : State) (c : Taken) : Keeps (s.exchange = none) s (s.completeRestart c) := by
  have fc := restartCleared_frame s
  have h1 : Keeps (s.exchange = none) s s.restartCleared := Keeps.of_frame fc
  have e1 : s.exchange = s.restartCleared.exchange := fc .exchange (by decide)
  have f2 : Unchanged _ s.restartCleared _ := Unchanged.foldl restartSlot_frame allSlots s.restartCleared
  rw [completeRestart_eq]
  refine (h1.trans (restartSlots_keeps allSlots _) (fun h _ _ => e1 ▸ h)).trans (restartRest_keeps _ c (fun n => ?_))
    (fun h _ _ => (f2 .exchange (by decide)).symm.trans (e1 ▸ h))
  rw [restarted_slot]
  exact switchedOff_unpowered _

/-! ## Reset -/

theorem reset_slot (n : Slot) : State.reset.slot n = SlotRecord.reset := by simp [State.slot, State.reset]
theorem reset_profile (n : Slot) : State.reset.profile n = Profile.reset := by simp [State.profile, State.reset]
theorem reset_queue (n : Slot) : State.reset.queue n = [] := by simp [State.queue, State.reset]
theorem reset_att (n : Slot) : State.reset.att n = AttentionRecord.reset := by simp [State.att, State.reset]

theorem reset_senFollows : State.reset.senFollows := fun n => by rw [reset_slot]; rfl

theorem reset_weightsSound : State.reset.weightsSound := by
  refine ⟨?_, fun n => ?_, fun e he => absurd he (List.not_mem_nil), fun c hc => absurd hc (List.not_mem_nil), fun e he => ?_,
    List.nodup_nil⟩
  · simp only [State.chargeSum, reset_slot]; rfl
  · rw [reset_profile, reset_slot]
    exact ⟨by decide, fun h => Bool.noConfusion h⟩
  · exact absurd he (by simp [State.reset])

theorem coldReset_keeps {cause : ResetCause} (h : execColdReset cause s = .next t) : Keeps True s t := by
  injection h with h
  subst h
  exact ⟨fun _ _ => reset_weightsSound, fun _ _ => Nat.zero_le _, fun _ => reset_senFollows⟩

/-! ## Every command -/

theorem event_keeps {due : Bool} {effect : State → State} (h : event due s effect = .next t)
    (he : due = true → Keeps True s (effect s)) : Keeps True s t := by
  injection h with h
  subst h
  exact Keeps.ite (fun hd => (he hd).andThen (finish_keeps s _)) (fun _ => Keeps.refl True s)

theorem quietEvent_keeps {due : Bool} {effect : State → State} (h : quietEvent due s effect = .next t)
    (he : Keeps True s (effect s)) : Keeps True s t := by
  injection h with h
  subst h
  exact Keeps.ite (fun _ => he) (fun _ => Keeps.refl True s)

end Sys2Proof.Machine
end

section
/-! Every command keeps the three laws, and so does every step. -/

set_option Elab.async false

namespace Sys2Proof.Machine

variable {P : Prop} {s t u : State}

/-! ## The link and the time base -/

/-- What the system link's own events can change. -/
abbrev linkFields : List Field :=
  [.hub, .timeBase, .notices, .lostCount, .firstLoss, .transmitter, .responseRun, .debounce, .receiver, .ingress, .responses,
    .immediate]

theorem execStart_frame (h : execStart s = .next t) : Unchanged linkFields s t := by
  injection h with h
  subst h
  split
  · exact Unchanged.refl _ s
  · intro f hf; cases f <;> first | rfl | exact absurd (by decide) hf

theorem arrive_frame (s : State) (frame : List Byte) : Unchanged linkFields s (s.arrive frame) := by
  unfold State.arrive
  exact Unchanged.ite (fun _ => (setIngress_frame s _).mono (by decide)) (fun _ => (raiseLink_frame s _).mono (by decide))

theorem setReceiver_frame (s : State) (r : Receiver) : Unchanged linkFields s { s with receiver := r } := by
  intro f hf; cases f <;> first | rfl | exact absurd (by decide) hf

theorem receptionEnd_frame (s : State) (bytes : List Byte) : Unchanged linkFields s (s.receptionEnd bytes) := by
  unfold State.receptionEnd
  split
  · exact (setReceiver_frame s _).trans ((raiseLink_frame _ _).mono (by decide))
  · dsimp only
    split
    · exact (setReceiver_frame s _).trans ((raiseLink_frame _ _).mono (by decide))
    · exact (setReceiver_frame s _).trans (arrive_frame _ _)

theorem startResponse_frame (s : State) (item : ResponseItem) : Unchanged linkFields s (s.startResponse item) := by
  intro f hf; cases f <;> first | rfl | exact absurd (by decide) hf

theorem startNotice_frame (s : State) (n : Notice) : Unchanged linkFields s (s.startNotice n) := by
  intro f hf; cases f <;> first | rfl | exact absurd (by decide) hf

theorem choose_frame (s : State) : Unchanged linkFields s s.choose := by
  unfold State.choose
  split
  · exact Unchanged.refl _ s
  · exact startResponse_frame s _
  · exact startNotice_frame s _
  · exact Unchanged.ite (fun _ => startResponse_frame s _) (fun _ => startNotice_frame s _)

theorem responseSent_frame (s : State) : Unchanged linkFields s s.responseSent := by
  unfold State.responseSent
  dsimp only
  split <;> (intro f hf; cases f <;> first | rfl | exact absurd (by decide) hf)

theorem noticeSent_frame (s : State) : Unchanged linkFields s s.noticeSent := by
  unfold State.noticeSent
  dsimp only
  refine Unchanged.ite (fun _ => ?_) (fun _ => ?_) <;> (intro f hf; cases f <;> first | rfl | exact absurd (by decide) hf)

/-! ## The commands with an outcome of their own shape -/

theorem execTransmissionEnd_keeps (h : execTransmissionEnd s = .next t) : Keeps True s t := by
  injection h with h
  subst h
  split
  · exact (Keeps.of_frame (responseSent_frame s)).andThen (finish_keeps s _)
  · exact Keeps.of_frame (noticeSent_frame s)
  · exact Keeps.refl True s

theorem setAtnLines_frame (s : State) (l : Vector Bool 24) : Unchanged [.atnLines] s { s with atnLines := l } := by
  intro f hf; cases f <;> first | rfl | exact absurd (by decide) hf

theorem execAtnChange_keeps {n : Slot} {active : Bool} (h : execAtnChange n active s = .next t) : Keeps True s t := by
  have hp : Keeps True s { s with atnLines := s.atnLines.set n active } := Keeps.of_frame (setAtnLines_frame s _)
  unfold execAtnChange at h
  split at h
  · injection h with h; subst h; exact Keeps.refl True s
  · split at h
    · injection h with h; subst h
      exact (hp.andThen (lineChange_keeps _ n active)).andThen (finish_keeps _ _)
    · injection h with h; subst h; exact hp

theorem execAttentionHoldoffExpiry_keeps {n : Slot} (h : execAttentionHoldoffExpiry n s = .next t) : Keeps True s t := by
  refine event_keeps h (fun _ => ?_)
  have ha : ∀ (s : State) x, Keeps True s (s.setAtt n x) := fun s x => Keeps.of_frame (setAtt_frame s n x)
  exact Keeps.ite (fun _ => ((ha s _).andThen (ha _ _)).andThen (startAction_keeps _ n)) (fun _ => (ha s _).andThen (ha _ _))

theorem setPin_frame (s : State) (b : Bool) (d : Option Nat) :
    Unchanged [.supplyLowPin, .debounce] s { s with supplyLowPin := b, debounce := d } := by
  intro f hf; cases f <;> first | rfl | exact absurd (by decide) hf

theorem execSupplyLowChange_keeps {b : Bool} (h : execSupplyLowChange b s = .next t) : Keeps True s t := by
  refine quietEvent_keeps h ?_
  refine Keeps.ite (fun _ => Keeps.ite (fun _ => ?_) (fun _ => ?_)) (fun _ => ?_)
  · exact (Keeps.of_frame (setPin_frame s b none)).andThen (takeSupplyLevel_keeps _)
  · exact Keeps.of_frame (setPin_frame s b _)
  · exact Keeps.of_frame (setPin_frame s b s.debounce)

theorem execSupplyLowDebounceExpiry_keeps (h : execSupplyLowDebounceExpiry s = .next t) : Keeps True s t :=
  quietEvent_keeps h ((Keeps.of_frame (setPin_frame s s.supplyLowPin none)).andThen (takeSupplyLevel_keeps _))

theorem execStepCountdownExpiry_keeps {n : Slot} (h : execStepCountdownExpiry n s = .next t) : Keeps True s t := by
  refine event_keeps h (fun hd => ?_)
  simp only [State.pollDue, Bool.and_eq_true] at hd
  refine Keeps.trans (setSlot_keeps s n { s.slot n with step := none } ⟨rfl, rfl, rfl, rfl⟩) (askControl_keeps _ n .identify)
    (fun _ _ _ => ?_)
  rw [setSlot_slot_self]
  exact hd.1.2

theorem execLimitCountdownExpiry_keeps {n : Slot} (h : execLimitCountdownExpiry n s = .next t) : Keeps True s t := by
  refine event_keeps h (fun _ => Keeps.ite (fun _ => ?_) (fun hf => ?_))
  · exact setSlot_keeps s n _ ⟨rfl, rfl, rfl, rfl⟩
  · exact (enterFaulted_keeps s n _).under (fun _ _ => unheld_of_notInFlight (by simpa using hf))

theorem execIdleHoldExpiry_keeps {n : Slot} (h : execIdleHoldExpiry n s = .next t) : Keeps True s t := by
  refine event_keeps h (fun hd => (startDrain_keeps s n _ _).under (fun _ _ => ?_))
  simp only [State.idleHoldRunning, Bool.and_eq_true, beq_iff_eq] at hd
  exact hd.1.2

theorem queueLeft_keeps (s : State) (n : Slot) : Keeps True s (s.queueLeft n) := by
  unfold State.queueLeft
  refine Keeps.ite (fun _ => ?_) (fun _ => Keeps.refl True s)
  split
  · exact startIdleHold_keeps s n
  · exact withdrawReason_keeps s n _
  · exact withdrawReason_keeps s n _
  · exact Keeps.refl True s
  · exact Keeps.refl True s
  · exact Keeps.refl True s
  · exact Keeps.refl True s
  · exact Keeps.refl True s

theorem execLifetimeExpiry_keeps {r : Requester} {tag : Byte} (h : execLifetimeExpiry r tag s = .next t) :
    Keeps True s t := by
  unfold execLifetimeExpiry at h
  split at h
  · injection h with h; subst h; exact Keeps.refl True s
  · refine event_keeps h (fun _ => ?_)
    exact ((Keeps.of_frame (setQueue_frame s _ _)).andThen (handOff_keeps _ _ _ _ _)).andThen (queueLeft_keeps _ _)

theorem execResponseTimeoutExpiry_keeps (h : execResponseTimeoutExpiry s = .next t) : Keeps True s t := by
  unfold execResponseTimeoutExpiry at h
  split at h
  · injection h with h; subst h; exact Keeps.refl True s
  · rename_i e he
    refine event_keeps h (fun _ => ?_)
    split
    · exact Keeps.refl True s
    · exact (attemptEnd_keeps s e _).under (fun _ _ => he)
    · exact (attemptEnd_keeps s e _).under (fun _ _ => he)

theorem execReplyEnd_keeps {bytes : List Byte} (h : execReplyEnd bytes s = .next t) : Keeps True s t := by
  unfold execReplyEnd at h
  split at h
  · injection h with h; subst h; exact Keeps.refl True s
  · rename_i e he
    exact event_keeps h (fun _ => (attemptEnd_keeps s e _).under (fun _ _ => he))

theorem setEvaluationDue_frame (s : State) (b : Bool) : Unchanged [.evaluationDue] s { s with evaluationDue := b } := by
  intro f hf; cases f <;> first | rfl | exact absurd (by decide) hf

theorem setPassDue_frame (s : State) (b : Bool) : Unchanged [.passDue] s { s with passDue := b } := by
  intro f hf; cases f <;> first | rfl | exact absurd (by decide) hf

theorem execRestartCompletion_keeps (h : execRestartCompletion s = .next t) : Keeps True s t := by
  injection h with h
  subst h
  split
  · rename_i hd _
    have hx : s.exchange = none := by
      simp only [Bool.and_eq_true, Option.isNone_iff_eq_none] at hd
      exact hd.2
    exact (completeRestart_keeps s _).under (fun _ _ => hx)
  · exact Keeps.refl True s

theorem execTimeBaseAdvance_keeps (h : execTimeBaseAdvance s = .next t) : Keeps True s t := by
  refine quietEvent_keeps h (Keeps.of_frame (a := [.timeBase]) ?_)
  intro f hf; cases f <;> first | rfl | exact absurd (by decide) hf

theorem execFrameArrival_keeps {bytes : List Byte} (h : execFrameArrival bytes s = .next t) : Keeps True s t :=
  quietEvent_keeps h (Keeps.of_frame (receptionEnd_frame s bytes))

theorem execFrameReceptionStart_keeps (h : execFrameReceptionStart s = .next t) : Keeps True s t := by
  refine quietEvent_keeps h ?_
  split
  · exact Keeps.of_frame (setReceiver_frame s _)
  · exact Keeps.of_frame (raiseLink_frame s _)

theorem execOutputChoice_keeps (h : execOutputChoice s = .next t) : Keeps True s t :=
  quietEvent_keeps h (Keeps.of_frame (choose_frame s))

theorem execCommandSent_keeps (h : execCommandSent s = .next t) : Keeps True s t :=
  quietEvent_keeps h (toPhase_keeps s _ _)

theorem execReplyStart_keeps (h : execReplyStart s = .next t) : Keeps True s t :=
  quietEvent_keeps h (toPhase_keeps s _ _)

theorem execReplyByteReceived_keeps (h : execReplyByteReceived s = .next t) : Keeps True s t :=
  quietEvent_keeps h (toPhase_keeps s _ _)

theorem execChainSelection_keeps (h : execChainSelection s = .next t) : Keeps True s t :=
  event_keeps h (fun _ => select_keeps s)

theorem execEvaluation_keeps (h : execEvaluation s = .next t) : Keeps True s t :=
  event_keeps h (fun _ => (Keeps.of_frame (setEvaluationDue_frame s false)).andThen (evaluate_keeps _ _))

theorem execSelectionPass_keeps (h : execSelectionPass s = .next t) : Keeps True s t :=
  event_keeps h (fun _ => (Keeps.of_frame (setPassDue_frame s false)).andThen (selectVictims_keeps _ _))

/-! ## Operations whose every outcome is an answer -/

theorem readEntryOp_keeps (c : Taken) (a : Table × Nat) (s : State) : Keeps True s (readEntryOp c a s) := by
  unfold readEntryOp
  split <;> exact respond_keeps _ _ _ _

theorem findUnitOp_keeps (c : Taken) (unit : Nat) (s : State) : Keeps True s (findUnitOp c unit s) := by
  unfold findUnitOp
  split <;> exact respond_keeps _ _ _ _

theorem writeUnitOp_keeps (c : Taken) (a : Nat × List Byte) (s : State) : Keeps True s (writeUnitOp c a s) := by
  unfold writeUnitOp
  split
  · split
    · exact respond_keeps _ _ _ _
    · refine Keeps.ite (fun _ => respond_keeps _ _ _ _) (fun _ => ?_)
      refine (Keeps.of_frame (a := [.unitMap]) ?_).andThen (respond_keeps _ _ _ _)
      intro f hf; cases f <;> first | rfl | exact absurd (by decide) hf
  · exact respond_keeps _ _ _ _

theorem writeRequesterOp_keeps (c : Taken) (a : Nat × List Byte) (s : State) : Keeps True s (writeRequesterOp c a s) := by
  unfold writeRequesterOp
  split
  · split
    · exact respond_keeps _ _ _ _
    · refine Keeps.ite (fun _ => respond_keeps _ _ _ _) (fun _ => ?_)
      refine (Keeps.of_frame (a := [.requesters]) ?_).andThen (respond_keeps _ _ _ _)
      intro f hf; cases f <;> first | rfl | exact absurd (by decide) hf
  · exact respond_keeps _ _ _ _

theorem writeChainOp_keeps (c : Taken) (a : Nat × List Byte) (s : State) : Keeps True s (writeChainOp c a s) := by
  unfold writeChainOp
  refine Keeps.ite (fun _ => respond_keeps _ _ _ _) (fun _ => ?_)
  split
  · exact respond_keeps _ _ _ _
  · refine (Keeps.of_frame (a := [.chain]) ?_).andThen (respond_keeps _ _ _ _)
    intro f hf; cases f <;> first | rfl | exact absurd (by decide) hf

theorem readFaultOp_keeps (c : Taken) (a : Unit) (s : State) : Keeps True s (readFaultOp c a s) := by
  unfold readFaultOp
  split
  · exact respond_keeps _ _ _ _
  · refine (Keeps.of_frame (a := [.freeIndex]) ?_).andThen (respond_keeps _ _ _ _)
    intro f hf; cases f <;> first | rfl | exact absurd (by decide) hf

theorem clearFaultOp_keeps (c : Taken) (serial : Byte) (s : State) : Keeps True s (clearFaultOp c serial s) := by
  unfold clearFaultOp
  refine Keeps.ite (fun _ => respond_keeps _ _ _ _) (fun _ => Keeps.ite (fun _ => respond_keeps _ _ _ _) (fun _ => ?_))
  refine (Keeps.of_frame (a := [.fault]) ?_).andThen (respond_keeps _ _ _ _)
  intro f hf; cases f <;> first | rfl | exact absurd (by decide) hf

/-! ## Every command, every step -/

theorem exec_keeps (c : Instr) (h : exec c s = .next t) : Keeps True s t := by
  cases c with
  | coldReset => exact coldReset_keeps h
  | start => exact Keeps.of_frame (execStart_frame h)
  | timeBaseAdvance => exact execTimeBaseAdvance_keeps h
  | supplyLowChange => exact execSupplyLowChange_keeps h
  | supplyLowDebounceExpiry => exact execSupplyLowDebounceExpiry_keeps h
  | atnChange => exact execAtnChange_keeps h
  | attentionHoldoffExpiry => exact execAttentionHoldoffExpiry_keeps h
  | frameArrival => exact execFrameArrival_keeps h
  | read => exact take_keeps admitData_keeps h
  | write => exact take_keeps admitData_keeps h
  | writePosted => exact take_keeps admitData_keeps h
  | readEntry => exact take_keeps (manage_keeps readEntryOp_keeps) h
  | writeEntryUnit => exact take_keeps (manage_keeps writeUnitOp_keeps) h
  | writeEntryRequester => exact take_keeps (manage_keeps writeRequesterOp_keeps) h
  | writeEntryProfile => exact take_keeps (manage_keeps writeProfileOp_keeps) h
  | writeEntryChain => exact take_keeps (manage_keeps writeChainOp_keeps) h
  | writeEntryBudget => exact take_keeps (manage_keeps writeBudgetOp_keeps) h
  | findUnit => exact take_keeps (manage_keeps findUnitOp_keeps) h
  | readSlot => exact take_keeps (manage_keeps (withSlot_keeps (fun _ _ _ => respond_keeps _ _ _ _))) h
  | readQueue => exact take_keeps (manage_keeps (withSlot_keeps (fun _ _ _ => respond_keeps _ _ _ _))) h
  | readBudget => exact take_keeps (manage_keeps (fun _ _ _ => respond_keeps _ _ _ _)) h
  | slotWake => exact take_keeps (manage_keeps slotWakeOp_keeps) h
  | slotRest => exact take_keeps (manage_keeps (withSlot_keeps slotRestOp_keeps)) h
  | slotOff => exact take_keeps (manage_keeps (withSlot_keeps slotOffOp_keeps)) h
  | pin => exact take_keeps (manage_keeps (withSlot_keeps pinOp_keeps)) h
  | unpin => exact take_keeps (manage_keeps (withSlot_keeps unpinOp_keeps)) h
  | slotClear => exact take_keeps (manage_keeps (withSlot_keeps slotClearOp_keeps)) h
  | readFault => exact take_keeps (manage_keeps readFaultOp_keeps) h
  | clearFault => exact take_keeps (manage_keeps clearFaultOp_keeps) h
  | restart => exact take_keeps (manage_keeps restartOp_keeps) h
  | restartCompletion => exact execRestartCompletion_keeps h
  | evaluation => exact execEvaluation_keeps h
  | selectionPass => exact execSelectionPass_keeps h
  | stepCountdownExpiry => exact execStepCountdownExpiry_keeps h
  | limitCountdownExpiry => exact execLimitCountdownExpiry_keeps h
  | idleHoldExpiry => exact execIdleHoldExpiry_keeps h
  | lifetimeExpiry => exact execLifetimeExpiry_keeps h
  | chainSelection => exact execChainSelection_keeps h
  | commandSent => exact execCommandSent_keeps h
  | replyStart => exact execReplyStart_keeps h
  | responseTimeoutExpiry => exact execResponseTimeoutExpiry_keeps h
  | replyEnd => exact execReplyEnd_keeps h
  | outputChoice => exact execOutputChoice_keeps h
  | transmissionEnd => exact execTransmissionEnd_keeps h
  | frameReceptionStart => exact execFrameReceptionStart_keeps h
  | replyByteReceived => exact execReplyByteReceived_keeps h

theorem setPending_frame (s : State) (l : List Instr) : Unchanged [.pending] s { s with pending := l } := by
  intro f hf; cases f <;> first | rfl | exact absurd (by decide) hf

theorem step_keeps (h : step s = .next t) : Keeps True s t := by
  unfold step at h
  split at h
  · injection h with h; subst h; exact Keeps.refl True s
  · rename_i i rest _
    exact (Keeps.of_frame (setPending_frame s rest)).andThen (exec_keeps i h)

/-- Settles O60: the relation `Keeps` of every command, by its cases. -/
theorem stepKeepsWeightsAndSenLines : Obligations.StepKeepsWeightsAndSenLines := by
  unfold Obligations.StepKeepsWeightsAndSenLines
  intro s t h
  have k := step_keeps h
  exact ⟨k.weights trivial, k.limit, k.sen⟩

end Sys2Proof.Machine
end

section
/-! The reset state: its values, and the invariants it meets. -/

set_option Elab.async false

namespace Sys2Proof.Machine

theorem reset_liveRecords : State.reset.liveRecords = [] := by
  simp [State.liveRecords, State.reset]

theorem reset_liveTotal : State.reset.liveTotal = 0 := by
  rw [State.liveTotal, reset_liveRecords]; rfl

theorem reset_unitMap (i : Fin 128) : State.reset.unitMap[i] = UnitEntry.reset := by simp [State.reset]

theorem reset_immediate (i : Fin 16) : State.reset.immediate[i] = .free := by simp [State.reset]

theorem reset_requester_other (r : Requester) (h : r ≠ 0) : State.reset.requester r = RequesterEntry.resetOther := by
  have h' : (0 : Nat) ≠ r.val := fun e => h (Fin.ext e.symm)
  simp [State.requester, State.reset, h']

theorem reset_pendingSum : State.reset.pendingSum = 0 := by
  simp only [State.pendingSum, reset_slot]; rfl

theorem reset_noticesSound : State.reset.noticesSound :=
  ⟨Nat.zero_le _, fun h => absurd rfl h, Nat.zero_le _, Nat.le_refl _, fun _ => rfl⟩

theorem reset_recordsBounded : State.reset.recordsBounded := by
  refine ⟨reset_liveTotal ▸ Nat.zero_le _, fun r => ?_⟩
  simp [State.liveCount, reset_liveRecords]

theorem reset_tagsDistinct : State.reset.tagsDistinct := by
  unfold State.tagsDistinct
  rw [reset_liveRecords]
  exact List.Pairwise.nil

theorem reset_queuesSound : State.reset.queuesSound := fun n r hr => by simp [reset_queue] at hr

theorem reset_dispatchesSound : State.reset.dispatchesSound := fun n => by simp [reset_queue]

theorem reset_responsesSound : State.reset.responsesSound := by
  refine ⟨fun i => ?_, fun i => Nat.zero_le _, trivial⟩
  have hempty : State.reset.responses = [] := rfl
  rw [reset_immediate i]
  simp [hempty]

theorem reset_unitsDistinct : State.reset.unitsDistinct := by
  have hinvalid : ∀ i : Fin 128, State.reset.unitMap[i].valid ≠ true := fun i => by
    rw [reset_unitMap]; exact Bool.false_ne_true
  exact ⟨fun i h => absurd h (hinvalid i), fun i _ h => absurd h (hinvalid i)⟩

/-- Settles O56: each invariant by its own lemma about the reset state. -/
theorem invariantsHoldAtReset : Obligations.InvariantsHoldAtReset :=
  ⟨reset_senFollows, reset_noticesSound, Nat.zero_le _, reset_recordsBounded, reset_tagsDistinct, reset_queuesSound,
    reset_dispatchesSound, Or.inl rfl, reset_responsesSound, reset_unitsDistinct, reset_weightsSound, fun _ => Nat.le_refl _⟩

/-- Settles O2: the per-slot and per-entry values by their lemmas, the others as the reset state is written. -/
theorem resetLeavesCatalogueValues : Obligations.ResetLeavesCatalogueValues := by
  refine ⟨fun n => ⟨reset_slot n, reset_queue n, reset_att n, reset_profile n⟩, rfl, reset_requester_other, reset_unitMap,
    rfl, rfl, rfl, ?_, rfl, rfl, rfl, rfl, rfl, rfl, rfl, reset_liveTotal, rfl, rfl, rfl, rfl, rfl, rfl, rfl, rfl, rfl, rfl,
    rfl, reset_immediate, rfl, rfl, rfl, rfl, rfl⟩
  rw [State.projected, reset_pendingSum]
  rfl

end Sys2Proof.Machine
end

section
/-! The end of an event in which no claim is served, and drains, switch-offs and faults up to that end. -/

set_option Elab.async false

namespace Sys2Proof.Machine

variable {s t u : State} {n : Slot}

/-! ## The end of an event -/

/-- An event after which no claim is served, no candidate is new and committed weight is no lower can still make a pass due. -/
theorem finish_eq (h : t.claimsSound) (hc : s.committed ≤ t.committed) :
    s.finish t =
      let t2 := if newCandidate s t then t.markEvaluation else t
      if courseChanged s t2 then t2.markPass else t2 := by
  dsimp only [State.finish]
  rw [serveClaims_none t h]
  generalize h3 : (if courseChanged s (if newCandidate s t then t.markEvaluation else t) = true then
    (if newCandidate s t then t.markEvaluation else t).markPass else (if newCandidate s t then t.markEvaluation else t)) = t3
  have hcom : t.committed = t3.committed := by
    rw [← h3]
    have f : Unchanged [.evaluationDue, .passDue] t _ :=
      (Unchanged.ite (p := newCandidate s t = true) (fun _ => (markEvaluation_frame t).mono (by decide))
        (fun _ => Unchanged.refl _ t)).trans
      (Unchanged.ite (p := courseChanged s (if newCandidate s t then t.markEvaluation else t) = true)
        (fun _ => (markPass_frame _).mono (by decide)) (fun _ => Unchanged.refl _ _))
    exact f .committed (by decide)
  refine if_neg (fun hx => ?_)
  have := hx.2.1
  omega

theorem finish_frame_due (h : t.claimsSound) (hc : s.committed ≤ t.committed) :
    Unchanged [.evaluationDue, .passDue] t (s.finish t) := by
  rw [finish_eq h hc]
  exact (Unchanged.ite (fun _ => (markEvaluation_frame t).mono (by decide)) (fun _ => Unchanged.refl _ t)).trans
    (Unchanged.ite (fun _ => (markPass_frame _).mono (by decide)) (fun _ => Unchanged.refl _ _))

theorem finish_evaluationDue (h : t.claimsSound) (hc : s.committed ≤ t.committed) :
    (s.finish t).evaluationDue = (t.evaluationDue || (newCandidate s t && !t.sheds)) := by
  rw [finish_eq h hc]
  have hp : ∀ v : State, (if courseChanged s v = true then v.markPass else v).evaluationDue = v.evaluationDue := fun v => by
    split
    · exact ((markPass_frame v) .evaluationDue (by decide)).symm
    · rfl
  dsimp only
  rw [hp]
  cases newCandidate s t <;> simp

theorem finish_frame_pass (h : t.claimsSound) (hc : s.committed ≤ t.committed) (hn : newCandidate s t = false) :
    Unchanged [.passDue] t (s.finish t) := by
  refine (finish_frame_due h hc).without .evaluationDue ?_ (by decide)
  show t.evaluationDue = _
  rw [finish_evaluationDue h hc, hn]
  simp

/-- While shedding is inactive, the end of an event can make an evaluation due and nothing else. -/
theorem finish_notShedding (h : t.claimsSound) (hs : t.sheds = false) :
    s.finish t = if newCandidate s t then t.markEvaluation else t := by
  dsimp only [State.finish]
  rw [serveClaims_none t h]
  generalize h2 : (if newCandidate s t = true then t.markEvaluation else t) = t2
  have hs2 : t2.sheds = false := by
    rw [← h2]
    split
    · exact ((markEvaluation_frame t).sheds).trans hs
    · exact hs
  have hp : (if courseChanged s t2 = true then t2.markPass else t2) = t2 := by
    split
    · simp [State.markPass, hs2]
    · rfl
  rw [hp, if_neg (fun hx => by simp [hs2] at hx)]

theorem inFlight_other (h : ∀ e, s.exchange = some e → e.slot = n) (h' : ∀ e, t.exchange = some e → e.slot = n) {m : Slot}
    (hm : m ≠ n) : t.inFlight m = s.inFlight m := by
  have hf : ∀ v : State, (∀ e, v.exchange = some e → e.slot = n) → v.inFlight m = false := fun v hv => by
    unfold State.inFlight
    split
    · rename_i e he; simpa [hv e he] using Ne.symm hm
    · rfl
  rw [hf t h', hf s h]

/-- An event that acts on one slot makes no other slot a candidate. -/
theorem newCandidate_onlySlot (ho : OnlySlot n s t) (hx : ∀ m, m ≠ n → t.inFlight m = s.inFlight m)
    (hc : t.candidate n = true → s.candidate n = true)
    (hd : (t.slot n).idleDraining = true → (s.slot n).idleDraining = true) : newCandidate s t = false := by
  refine newCandidate_same s t (fun k hk => ?_) (fun k hk => ?_)
  · by_cases hkn : k = n
    · exact hkn ▸ hc (hkn ▸ hk)
    · obtain ⟨h1, h2, h3, -⟩ := ho k hkn
      simpa only [State.candidate, State.idleSlot, h1, h2, h3, hx k hkn] using hk
  · by_cases hkn : k = n
    · exact hkn ▸ hd (hkn ▸ hk)
    · rw [← (ho k hkn).1]; exact hk

theorem courseChanged_onlySlot (ho : OnlySlot n s t) (hc : s.committed = t.committed)
    (hs : (s.slot n).state = (t.slot n).state) (hp : (s.slot n).pendingRelease = (t.slot n).pendingRelease) :
    courseChanged s t = false := by
  refine courseChanged_same s t hc (fun k => ?_)
  by_cases hkn : k = n
  · exact hkn ▸ ⟨hs, hp⟩
  · rw [(ho k hkn).1]; exact ⟨rfl, rfl⟩

theorem not_candidate_of_state (h1 : (s.slot n).state ≠ .awake) (h2 : (s.slot n).idleDraining = false) :
    s.candidate n = false := by
  simp [State.candidate, State.idleSlot, h1, h2]

theorem not_idleDraining_of_state {r : SlotRecord} (h : r.state ≠ .draining) : r.idleDraining = false := by
  simp [SlotRecord.idleDraining, h]

theorem idleDraining_drain {r : SlotRecord} {d : Drain} (h : r.drain = some d) (hc : d.cause ≠ .idle) :
    r.idleDraining = false := by
  simp [SlotRecord.idleDraining, h, hc]

/-! ## Drains -/

/-- A slot record when a drain has started (R13). -/
def SlotRecord.drained (r : SlotRecord) (c : DrainCause) (m : RestMode) : SlotRecord :=
  { r with state := .draining, drain := some { cause := c, target := m }, switchOff := none, timedOut := none, step := none,
           limit := none, sen := true }

/-- The first part of a drain's start: the change of state with the drain, before the slot moves towards rest. -/
def State.drainBegun (s : State) (n : Slot) (c : DrainCause) (m : RestMode) : State :=
  (s.changeState n .draining [drainCauseCode c]).updateSlot n (fun r => { r with drain := some { cause := c, target := m } })

theorem startDrain_eq (s : State) (n : Slot) (c : DrainCause) (m : RestMode) :
    s.startDrain n c m = (s.drainBegun n c m).towardsRest n := rfl

theorem drainBegun_slot (s : State) (n : Slot) (c : DrainCause) (m : RestMode) :
    (s.drainBegun n c m).slot n = (s.slot n).drained c m := by
  simp [State.drainBegun, SlotRecord.changed, SlotRecord.drained, SlotState.powered]

theorem drainBegun_frame (h : (s.slot n).state = .awake) (c : DrainCause) (m : RestMode) :
    Unchanged [.slots, .control, .notices, .lostCount, .firstLoss] s (s.drainBegun n c m) := by
  refine Unchanged.trans ?_ ((setSlot_frame _ n _).mono (by decide))
  refine changeState_frame_kept s n .draining _ ?_ (Or.inr (Or.inr (Or.inl rfl)))
  simp [SlotRecord.charge, SlotRecord.changed, h]

theorem drainBegun_onlySlot (s : State) (n : Slot) (c : DrainCause) (m : RestMode) : OnlySlot n s (s.drainBegun n c m) :=
  (changeState_onlySlot s n .draining _).trans (setSlot_onlySlot _ n _)

theorem drainBegun_control (s : State) (n : Slot) (c : DrainCause) (m : RestMode) :
    (s.drainBegun n c m).control = s.control.filter (fun x => x.slot != n) :=
  changeState_control s n .draining _

theorem towardsRest_busy (h : s.inFlight n = true) : s.towardsRest n = s := by
  simp only [State.towardsRest, h]
  split
  · rename_i hf; exact absurd hf (by simp)
  · rfl

theorem towardsRest_slumber {c : DrainCause} (hs : (s.slot n).state = .draining)
    (hd : (s.slot n).drain = some { cause := c, target := .slumber }) (hf : s.inFlight n = false) :
    s.towardsRest n = s.askControl n .slumber := by
  simp only [State.towardsRest, hs, hd, hf]

theorem towardsRest_off {c : DrainCause} (hs : (s.slot n).state = .draining)
    (hd : (s.slot n).drain = some { cause := c, target := .off }) (hf : s.inFlight n = false) :
    s.towardsRest n = s.enterOff n (restExempt c) := by
  simp only [State.towardsRest, hs, hd, hf]

theorem drainBegun_inFlight (s : State) (n : Slot) (c : DrainCause) (m : RestMode) :
    (s.drainBegun n c m).inFlight n = s.inFlight n :=
  (changeState_frame s n .draining [drainCauseCode c]).inFlight n

theorem drainBegun_stopped (s : State) (n : Slot) (c : DrainCause) (m : RestMode) :
    (s.drainBegun n c m).stopped = s.stopped :=
  ((changeState_frame s n .draining [drainCauseCode c]) .stopped (by decide)).symm

/-- What a drain that stays in DRAINING leaves: the slot has its exchange in flight, or asks for a SLUMBER exchange (R13, R14). -/
theorem startDrain_held (hs : (s.slot n).state = .awake) (c : DrainCause) (m : RestMode)
    (hm : s.inFlight n = true ∨ m = .slumber) :
    (s.startDrain n c m).slot n = (s.slot n).drained c m ∧
    (s.startDrain n c m).control = s.control.filter (fun x => x.slot != n) ++
      (if s.inFlight n = true ∨ s.stopped = true then [] else [{ slot := n, command := .slumber }]) ∧
    Unchanged [.slots, .control, .notices, .lostCount, .firstLoss] s (s.startDrain n c m) := by
  have hslot := drainBegun_slot s n c m
  have hcontrol := drainBegun_control s n c m
  have hframe := drainBegun_frame hs c m
  rw [startDrain_eq]
  by_cases hf : s.inFlight n = true
  · rw [towardsRest_busy ((drainBegun_inFlight s n c m).trans hf)]
    exact ⟨hslot, by simp [hcontrol, hf], hframe⟩
  · have hf' : s.inFlight n = false := by simpa using hf
    obtain rfl : m = .slumber := hm.resolve_left hf
    rw [towardsRest_slumber (c := c) (by rw [hslot]; rfl) (by rw [hslot]; rfl) ((drainBegun_inFlight s n c .slumber).trans hf')]
    have fa := askControl_frame (s.drainBegun n c .slumber) n .slumber
    refine ⟨(fa.slot n).trans hslot, ?_, hframe.trans (fa.mono (by decide))⟩
    simp only [State.askControl, drainBegun_stopped, hf', Bool.false_eq_true, false_or]
    split
    · simp [hcontrol]
    · simp [hcontrol]

theorem startDrain_off (c : DrainCause) (hf : s.inFlight n = false) :
    s.startDrain n c .off = (s.drainBegun n c .off).enterOff n (restExempt c) := by
  rw [startDrain_eq]
  have hslot := drainBegun_slot s n c .off
  exact towardsRest_off (by rw [hslot]; rfl) (by rw [hslot]; rfl) ((drainBegun_inFlight s n c .off).trans hf)

/-! ## Entering OFF, up to the end of the event -/

/-- A slot record in OFF, every mark and countdown clear (R1, R3, R4). -/
def SlotRecord.inOff (r : SlotRecord) (failures : Nat) : SlotRecord :=
  { r with state := .off, drain := none, switchOff := none, timedOut := none, step := none, limit := none, sen := false,
           failures := failures }

/-- What may come before the entry to OFF in the same event. -/
theorem OffEntered.after {k : Nat} (h : OffEntered n k t u)
    (f : Unchanged [.slots, .control, .notices, .lostCount, .firstLoss, .exchange, .responseTimeout] s t) (ho : OnlySlot n s t)
    (hr : (t.slot n).inOff k = (s.slot n).inOff k) (hc : (t.slot n).charge = (s.slot n).charge)
    (hx : t.control.filter (fun c => c.slot != n) = s.control.filter (fun c => c.slot != n)) : OffEntered n k s u := by
  obtain ⟨hslot, hcom, hqueue, horder, hcontrol, hset, hlist, hsense, hlast, hread, honly, hframe⟩ := h
  have hq := f.queue n
  refine ⟨hslot.trans hr, ?_, hqueue.trans hq, ?_, hcontrol.trans hx, ?_, fun hne => hlist (by rwa [hq]), hsense, hlast, hread,
    ho.trans honly, (f.mono (by decide)).trans hframe⟩
  · rw [hcom, hc, ← (f .committed (by decide) : s.committed = _)]
  · rw [horder, ← (f .useOrder (by decide) : s.useOrder = _)]
  · rw [hset, ← (f .evictionSet (by decide) : s.evictionSet = _)]

/-- What may come after the entry to OFF in the same event. -/
theorem OffEntered.andThen {k : Nat} (h : OffEntered n k s t)
    (f : Unchanged [.passDue, .shedding, .evaluationDue, .notices, .lostCount, .firstLoss, .fault] t u) : OffEntered n k s u := by
  obtain ⟨hslot, hcom, hqueue, horder, hcontrol, hset, hlist, hsense, hlast, hread, honly, hframe⟩ := h
  refine ⟨(f.slot n).trans hslot, ?_, (f.queue n).trans hqueue, ?_, ?_, ?_, fun hne => (f.listed n).trans (hlist hne), ?_, ?_, ?_,
    honly.trans (f.onlySlot n (by decide) (by decide) (by decide) (by decide)), hframe.trans (f.mono (by decide))⟩
  · rw [← hcom]; exact ((f .committed (by decide)) : t.committed = _).symm
  · rw [← horder]; exact ((f .useOrder (by decide)) : t.useOrder = _).symm
  · rw [← hcontrol]; exact ((f .control (by decide)) : t.control = _).symm
  · rw [← hset]; exact ((f .evictionSet (by decide)) : t.evictionSet = _).symm
  · rw [f.att n]; exact hsense
  · rw [f.att n]; exact hlast
  · rw [f.att n]; exact hread

/-- The entry to OFF takes no claim but the slot's own out of the list, and frees no record. -/
theorem attentionAtOff_claims (s : State) (n : Slot) : (s.attentionAtOff n).claims = s.claims ∨
    (s.attentionAtOff n).claims = s.claims.filter (· != n) := by
  have hr : ∀ (v : State) st d, (v.raiseAttention n st d).claims = v.claims := fun v st d =>
    ((raiseAttention_frame v n st d) .claims (by decide)).symm
  have hw : (s.withdrawReason n .attention).claims = s.claims := ((withdrawReason_frame s n .attention) .claims (by decide)).symm
  dsimp only [State.attentionAtOff]
  split
  · exact Or.inl rfl
  · rw [setAtt_claims]
    split
    · exact Or.inr (hr _ _ _)
    · exact Or.inl ((hr _ _ _).trans hw)
    · exact Or.inl rfl
    · exact Or.inl rfl
    · exact Or.inl rfl

theorem claimsSound_of_sub (hc : s.claimsSound) (ht : t.claims = s.claims ∨ t.claims = s.claims.filter (· != n))
    (hl : t.liveTotal = s.liveTotal) : t.claimsSound := by
  rcases hc with h | h
  · left
    rcases ht with e | e <;> simp [e, h]
  · right
    rw [hl]; exact h

theorem enterOff_frame_fine (s : State) (n : Slot) (x : Bool) :
    Unchanged [.slots, .useOrder, .committed, .wake, .joinCounter, .evictionSet, .evaluationDue, .claims, .control, .attention,
      .notices, .lostCount, .firstLoss] s (s.enterOff n x) :=
  (((changeState_frame s n .off []).mono (by decide)).trans ((attentionAtOff_frame _ n).mono (by decide))).trans
    ((gainAtRest_frame _ n x).mono (by decide))

theorem enterOff_claims (s : State) (n : Slot) (x : Bool) :
    (s.enterOff n x).claims = s.claims ∨ (s.enterOff n x).claims = s.claims.filter (· != n) := by
  have h1 : s.claims = (s.changeState n .off []).claims := (changeState_frame s n .off []) .claims (by decide)
  have h2 : _ = (s.enterOff n x).claims := (gainAtRest_frame ((s.changeState n .off []).attentionAtOff n) n x) .claims (by decide)
  rw [← h2, h1]
  exact attentionAtOff_claims _ n

theorem enterOff_claimsSound (h : s.claimsSound) (x : Bool) : (s.enterOff n x).claimsSound :=
  claimsSound_of_sub h (enterOff_claims s n x) (enterOff_frame_fine s n x).liveTotal

theorem enterOff_listed (h : (s.slot n).pin = true) : (s.enterOff n false).listed n = true := by
  refine gainAtRest_listed _ n false (Or.inr ⟨?_, rfl⟩)
  rw [(attentionAtOff_frame _ n).slot n, changeState_slot_self]
  exact h

theorem charge_drained {r : SlotRecord} (h : r.state = .awake) (c : DrainCause) (m : RestMode) :
    (r.drained c m).charge = r.charge := by
  simp [SlotRecord.drained, SlotRecord.charge, h]

/-- A drain towards OFF with no exchange in flight takes the slot to OFF in the event (R14). -/
theorem startDrain_off_entered (hs : (s.slot n).state = .awake) (c : DrainCause) (hf : s.inFlight n = false) :
    OffEntered n (s.slot n).failures s (s.startDrain n c .off) := by
  rw [startDrain_off c hf]
  have h := enterOff_entered (s.drainBegun n c .off) n (restExempt c)
  have hslot := drainBegun_slot s n c .off
  have hfail : ((s.drainBegun n c .off).slot n).failures = (s.slot n).failures := by rw [hslot]; rfl
  rw [hfail] at h
  refine h.after ((drainBegun_frame hs c .off).mono (by decide)) (drainBegun_onlySlot s n c .off) ?_ ?_ ?_
  · rw [hslot]; rfl
  · rw [hslot]; exact charge_drained hs c .off
  · rw [drainBegun_control]; simp

theorem startDrain_off_listed {c : DrainCause} (hf : s.inFlight n = false)
    (hc : restExempt c = false) (hp : (s.slot n).pin = true) : (s.startDrain n c .off).listed n = true := by
  rw [startDrain_off c hf, hc]
  exact enterOff_listed (by rw [drainBegun_slot]; exact hp)

theorem startDrain_claimsSound (h : s.claimsSound) (hs : (s.slot n).state = .awake) (c : DrainCause) (m : RestMode) :
    (s.startDrain n c m).claimsSound := by
  by_cases hm : s.inFlight n = true ∨ m = .slumber
  · exact (startDrain_held hs c m hm).2.2.claimsSound h
  · simp only [not_or, Bool.not_eq_true] at hm
    obtain rfl : m = .off := by cases m <;> simp_all
    rw [startDrain_off c hm.1]
    exact enterOff_claimsSound ((drainBegun_frame hs c .off).claimsSound h) _

end Sys2Proof.Machine
end

section
/-! Slot commands: SLOT_REST, PIN, UNPIN, SLOT_CLEAR and RESTART. -/

set_option Elab.async false

namespace Sys2Proof.Machine

variable {s t u : State} {n : Slot}

/-! ## The answer of a slot command -/

theorem respond_liveTotal (s : State) (c : Taken) (st : Status) (d : List Byte) : (s.respond c st d).liveTotal = s.liveTotal := by
  simp [State.liveTotal, State.liveRecords, State.respond, ResponseItem.record?]

theorem respond_claimsSound (h : s.claimsSound) (c : Taken) (st : Status) (d : List Byte) : (s.respond c st d).claimsSound := by
  show s.claims = [] ∨ Config.poolSize ≤ (s.respond c st d).liveTotal
  rw [respond_liveTotal]
  exact h

theorem respond_onlySlot (s : State) (c : Taken) (st : Status) (d : List Byte) (n : Slot) : OnlySlot n s (s.respond c st d) :=
  (respond_frame s c st d).onlySlot n (by decide) (by decide) (by decide) (by decide)

theorem finishRespond_frame (hu : u.claimsSound) (hc : s.committed ≤ u.committed) (c : Taken) (st : Status) (d : List Byte) :
    Unchanged [.immediate, .responses, .evaluationDue, .passDue] u (s.finish (u.respond c st d)) :=
  (respond_frame u c st d).andThen (finish_frame_due (respond_claimsSound hu c st d) hc) (by decide) (by decide)

theorem finishRespond_frame_pass (hu : u.claimsSound) (hc : s.committed ≤ u.committed) (c : Taken) (st : Status) (d : List Byte)
    (hn : newCandidate s (u.respond c st d) = false) :
    Unchanged [.immediate, .responses, .passDue] u (s.finish (u.respond c st d)) :=
  (respond_frame u c st d).andThen (finish_frame_pass (respond_claimsSound hu c st d) hc hn) (by decide) (by decide)

/-- The answer stands in the reserved entry and behind the responses that the operation left. -/
theorem finish_answered {a b : List Field} {c : Taken} {st : Status} {d : List Byte}
    (f : Unchanged a s u) (g : Unchanged b (u.respond c st d) t)
    (h1 : Field.immediate ∉ a := by decide) (h2 : Field.ingress ∉ a := by decide)
    (h3 : Field.immediate ∉ b := by decide) (h4 : Field.responses ∉ b := by decide) (h5 : Field.ingress ∉ b := by decide) :
    t.immediate = (s.respond c st d).immediate ∧ t.responses = u.responses ++ [.immediate c.entry] ∧ t.ingress = s.ingress := by
  have e1 : s.immediate = u.immediate := f .immediate h1
  have e2 : s.ingress = u.ingress := f .ingress h2
  refine ⟨(g .immediate h3).symm.trans ?_, (g .responses h4).symm, (g .ingress h5).symm.trans e2.symm⟩
  show u.immediate.set _ _ = s.immediate.set _ _
  rw [e1]

/-- An operation on one slot and its answer make no other slot a candidate. -/
theorem newCandidate_respond (ho : OnlySlot n s u) (hx : s.exchange = u.exchange) (c : Taken) (st : Status) (d : List Byte)
    (hc : u.candidate n = true → s.candidate n = true)
    (hd : (u.slot n).idleDraining = true → (s.slot n).idleDraining = true) :
    newCandidate s (u.respond c st d) = false := by
  refine newCandidate_onlySlot (ho.trans (respond_onlySlot u c st d n)) (fun m _ => ?_) ?_ hd
  · show u.inFlight m = s.inFlight m
    simp only [State.inFlight, hx]
  · rw [(respond_frame u c st d).candidate n]; exact hc

/-- The state whose oldest frame has left ingress. -/
def State.unqueued (s : State) (rest : List (List Byte)) : State := { s with ingress := rest }

/-- An operation on the state without the frame, seen from the state with it. -/
theorem Unchanged.fromIngress {a b : List Field} {rest : List (List Byte)} (f : Unchanged a (s.unqueued rest) t)
    (ha : ∀ g ∈ a, g ∈ b := by decide) (hi : Field.ingress ∈ b := by decide) : Unchanged b s t :=
  (setIngress_frame s rest).andThen f (fun g hg => by rw [List.mem_singleton.mp hg]; exact hi) ha

/-- A due slot command with a slot argument outside 0 to 23 is refused; with a slot it is its operation. -/
theorem slotCommand_run {c : Taken} {frame : List Byte} {rest : List (List Byte)} {k : TakeKind} {code : Byte} {b : Byte}
    (hdue : s.takeDue c frame rest) (hk : takeKindOf frame = some k) (ha : oneArgument code frame = some b) (hm : s.managed c)
    (op : Taken → Slot → State → State) :
    (24 ≤ b.toNat → take k (oneArgument code) (manage (withSlot op)) s = .next (s.answered c rest .badIndex [])) ∧
      ∀ n : Slot, b.toNat = n.val → take k (oneArgument code) (manage (withSlot op)) s = .next (op c n (s.unqueued rest)) := by
  have hrun := take_managed s hdue hk (oneArgument code) ha hm (withSlot op)
  refine ⟨fun hb => ?_, fun n hn => ?_⟩
  · rw [hrun, withSlot_none _ _ _ hb, respond_answered]
  · rw [hrun, withSlot_some _ _ _ hn]; rfl

/-! ## SLOT_REST -/

/-- SLOT_REST on an idle AWAKE slot: the drain asks for its exchange, and a REST drain makes no candidate (R13, R14, R156). -/
theorem slotRestOp_drains (c : Taken) (hs : (s.slot n).state = .awake) (hq : s.queue n = []) (hf : s.inFlight n = false)
    (hst : s.stopped = false) (hcl : s.claimsSound) :
    (slotRestOp c n s).slot n = (s.slot n).drained .rest .slumber ∧
    (slotRestOp c n s).control = s.control.filter (fun x => x.slot != n) ++ [{ slot := n, command := .slumber }] ∧
    OnlySlot n s (slotRestOp c n s) ∧ (slotRestOp c n s).immediate = (s.respond c .ok []).immediate ∧
    (slotRestOp c n s).responses = s.responses ++ [.immediate c.entry] ∧ (slotRestOp c n s).ingress = s.ingress ∧
    Unchanged [.slots, .control, .notices, .lostCount, .firstLoss, .passDue, .immediate, .responses] s (slotRestOp c n s) := by
  have hop : slotRestOp c n s = s.finish ((s.startDrain n .rest .slumber).respond c .ok []) := by
    simp only [slotRestOp, hs, hq, List.isEmpty_nil, if_true]
  obtain ⟨hdr, hctl, hfr⟩ := startDrain_held hs .rest .slumber (Or.inr rfl)
  have honly := startDrain_onlySlot s n .rest .slumber
  have hclu := hfr.claimsSound hcl
  have hcom : s.committed = (s.startDrain n .rest .slumber).committed := hfr .committed (by decide)
  have hid : ((s.startDrain n .rest .slumber).slot n).idleDraining = false := by
    rw [hdr]; exact idleDraining_drain rfl (by decide)
  have hcand : (s.startDrain n .rest .slumber).candidate n = false :=
    not_candidate_of_state (by rw [hdr]; exact SlotState.noConfusion) hid
  have hnew := newCandidate_respond honly (hfr .exchange (by decide)) c .ok [] (fun h => by simp [hcand] at h)
    (fun h => by simp [hid] at h)
  have hfin := finish_frame_pass (respond_claimsSound hclu c .ok []) hcom.le hnew
  have htot := finishRespond_frame_pass hclu hcom.le c .ok [] hnew
  have hresp : s.responses = (s.startDrain n .rest .slumber).responses := hfr .responses (by decide)
  obtain ⟨himm, hres, hing⟩ := finish_answered hfr hfin
  rw [hop]
  refine ⟨(htot.slot n).trans hdr, ?_, honly.trans (htot.onlySlot n (by decide) (by decide) (by decide) (by decide)), himm,
    hres.trans (by rw [← hresp]), hing, hfr.andThen htot (by decide) (by decide)⟩
  rw [← (htot .control (by decide) : _ = State.control _), hctl]
  simp only [hf, hst, Bool.false_eq_true, or_self, if_false]

/-- Settles O29: refusals by the branches of the operation, the drain by `slotRestOp_drains`. -/
theorem slotRestDrainsIdleSlot : Obligations.SlotRestDrainsIdleSlot := by
  intro b frame rest c s hdue hk ha hm hcl
  obtain ⟨hbad, hrun⟩ := slotCommand_run hdue hk ha hm slotRestOp
  refine ⟨hbad, fun n hn => ⟨fun hne => ?_, fun hs hq => ?_, fun hs hq hf hst => ?_⟩⟩
  · refine (hrun n hn).trans (congrArg _ ?_)
    exact if_neg hne
  · refine (hrun n hn).trans (congrArg _ ?_)
    have hq' : ¬ (s.queue n).isEmpty = true := by simpa using hq
    exact (if_pos hs).trans (if_neg hq')
  · obtain ⟨hslot, hctl, honly, himm, hres, hing, hframe⟩ :=
      slotRestOp_drains (s := s.unqueued rest) (n := n) c hs hq hf hst hcl
    refine ⟨_, hrun n hn, ?_, ?_, ?_, ?_, hctl, honly, himm, hres, hing, hframe.fromIngress⟩
    all_goals rw [hslot]; rfl

end Sys2Proof.Machine
end

section
/-! Slot commands: PIN and UNPIN (R24, R158). -/

set_option Elab.async false

namespace Sys2Proof.Machine

variable {s t u : State} {n : Slot}

/-! ## What the two operations call -/

/-- The cancelling of a drain returns the slot to AWAKE (R15). -/
theorem cancelDrain_effect (hs : (s.slot n).state = .draining) :
    (s.cancelDrain n).slot n = (s.slot n).changed .awake ∧
    (s.cancelDrain n).control = s.control.filter (fun x => x.slot != n) ∧ OnlySlot n s (s.cancelDrain n) ∧
    Unchanged [.slots, .control, .attention, .notices, .lostCount, .firstLoss] s (s.cancelDrain n) := by
  have hc : Unchanged [.slots, .control, .notices, .lostCount, .firstLoss] s (s.changeState n .awake []) := by
    refine changeState_frame_kept s n .awake [] ?_ (Or.inr (Or.inr (Or.inr ⟨rfl, hs⟩)))
    simp [SlotRecord.charge, SlotRecord.changed, hs]
  have hself := changeState_slot_self s n .awake []
  have hctl := changeState_control s n .awake []
  have honly := changeState_onlySlot s n .awake []
  dsimp only [State.cancelDrain]
  split
  · have fe := endAction_frame (s.changeState n .awake []) n .ok [] true
    exact ⟨(fe.slot n).trans hself, (fe .control (by decide)).symm.trans hctl, honly.trans (endAction_onlySlot _ n _ _ _),
      hc.andThen fe (by decide) (by decide)⟩
  · exact ⟨hself, hctl, honly, hc.mono (by decide)⟩

theorem idleHoldDue_iff (s : State) (n : Slot) (hold : Nat) : s.idleHoldDue n hold = true ↔
    (s.slot n).state = .awake ∧ (s.slot n).pin = false ∧ s.queue n = [] ∧ s.inFlight n = false ∧ hold ≠ 0 ∧
      s.restarting = false := by
  simp [State.idleHoldDue, and_assoc]

/-- The idle hold is loaded where its conditions hold (R11). -/
theorem startIdleHold_slot (s : State) (n : Slot) : (s.startIdleHold n).slot n = { s.slot n with
    step := if s.idleHoldDue n (s.profile n).idleHold then some { purpose := .idleHold, ms := (s.profile n).idleHold }
      else (s.slot n).step } := by
  by_cases h : s.idleHoldDue n (s.profile n).idleHold = true
  · simp [State.startIdleHold, h]
  · simp [State.startIdleHold, h]

theorem startIdleHold_onlySlot (s : State) (n : Slot) : OnlySlot n s (s.startIdleHold n) := by
  unfold State.startIdleHold
  dsimp only
  split
  · exact setSlot_onlySlot s n _
  · exact OnlySlot.refl n s

/-- A slot whose entry has the withdrawn reason only is not listed any more (R37). -/
theorem withdrawReason_listed {why : WakeReason} (h : ∀ e, s.wakeEntry n = some e → e.reasons.drop why = ReasonSet.none) :
    (s.withdrawReason n why).listed n = false := by
  unfold State.withdrawReason
  split
  · rename_i hw; exact (wakeEntry_none_iff s n).mp hw
  · rename_i e hw
    rw [if_pos (h e hw)]
    exact removeEntry_listed s n

theorem ReasonGained.andThen {why : WakeReason} {l : Level} {a : List Field} (h : ReasonGained n why l s t)
    (f : Unchanged a t u) (h1 : Field.wake ∉ a := by decide) (h2 : Field.joinCounter ∉ a := by decide)
    (h3 : Field.evaluationDue ∉ a := by decide) : ReasonGained n why l s u := by
  have e1 : t.wake = u.wake := f .wake h1
  have e2 : t.joinCounter = u.joinCounter := f .joinCounter h2
  have e3 : t.evaluationDue = u.evaluationDue := f .evaluationDue h3
  unfold ReasonGained at h ⊢
  simpa only [State.wakeEntry, e1, e2, e3] using h

theorem ReasonGained.after {why : WakeReason} {l : Level} {a : List Field} (h : ReasonGained n why l t u)
    (f : Unchanged a s t) (h1 : Field.wake ∉ a := by decide) (h2 : Field.joinCounter ∉ a := by decide)
    (h3 : Field.evaluationDue ∉ a := by decide) (h4 : Field.shedding ∉ a := by decide) : ReasonGained n why l s u := by
  have e1 : s.wake = t.wake := f .wake h1
  have e2 : s.joinCounter = t.joinCounter := f .joinCounter h2
  have e3 : s.evaluationDue = t.evaluationDue := f .evaluationDue h3
  have e4 : t.sheds = s.sheds := f.sheds h4
  unfold ReasonGained at h ⊢
  simpa only [State.wakeEntry, e1, e2, e3, e4] using h

/-! ## The pin flag -/

/-- A slot record with its pin flag set or cleared. -/
def SlotRecord.pinned (r : SlotRecord) (set : Bool) : SlotRecord := { r with pin := set }

theorem pinned_idleDraining (r : SlotRecord) (set : Bool) : (r.pinned set).idleDraining = r.idleDraining := rfl

/-- What PIN and UNPIN can change in a slot's surroundings, before the answer. -/
abbrev pinFields : List Field :=
  [.slots, .control, .attention, .notices, .lostCount, .firstLoss, .wake, .joinCounter, .evaluationDue]

/-- What PIN does to a slot that is not pinned (R24), by its state. -/
def PinSet (n : Slot) (s t : State) : Prop :=
  match (s.slot n).state with
  | .off => ReasonGained n .pin .urgent s t ∧ t.slot n = (s.slot n).pinned true
  | .slumber => ReasonGained n .pin .urgent s t ∧ t.slot n = (s.slot n).pinned true
  | .awake => t.slot n = { (s.slot n).pinned true with step := none }
  | .draining => if (s.slot n).idleDraining then
      (t.slot n = ((s.slot n).pinned true).changed .awake ∧ t.control = s.control.filter (fun x => x.slot != n))
    else t.slot n = (s.slot n).pinned true
  | .powering => t.slot n = (s.slot n).pinned true
  | .waking => t.slot n = (s.slot n).pinned true
  | .settling => t.slot n = (s.slot n).pinned true
  | .faulted => t.slot n = (s.slot n).pinned true

theorem pinSlot_effect (s : State) (n : Slot) :
    PinSet n s (s.pinSlot n) ∧ OnlySlot n s (s.pinSlot n) ∧ Unchanged pinFields s (s.pinSlot n) := by
  have hp : (s.setSlot n ((s.slot n).pinned true)).slot n = (s.slot n).pinned true := setSlot_slot_self s n _
  have ho : OnlySlot n s (s.setSlot n ((s.slot n).pinned true)) := setSlot_onlySlot s n _
  have hf := setSlot_frame s n ((s.slot n).pinned true)
  have hgain : ReasonGained n .pin .urgent s ((s.setSlot n ((s.slot n).pinned true)).gainReason n .pin .urgent) ∧
      ((s.setSlot n ((s.slot n).pinned true)).gainReason n .pin .urgent).slot n = (s.slot n).pinned true ∧
      OnlySlot n s ((s.setSlot n ((s.slot n).pinned true)).gainReason n .pin .urgent) ∧
      Unchanged pinFields s ((s.setSlot n ((s.slot n).pinned true)).gainReason n .pin .urgent) := by
    have fg := gainReason_frame (s.setSlot n ((s.slot n).pinned true)) n .pin .urgent
    exact ⟨(gainReason_gained _ n .pin .urgent).after hf, (fg.slot n).trans hp,
      ho.trans (fg.onlySlot n (by decide) (by decide) (by decide) (by decide)), hf.andThen fg (by decide) (by decide)⟩
  have hstay : OnlySlot n s (s.setSlot n ((s.slot n).pinned true)) ∧
      Unchanged pinFields s (s.setSlot n ((s.slot n).pinned true)) := ⟨ho, hf.mono (by decide)⟩
  unfold State.pinSlot PinSet
  cases hs : (s.slot n).state with
  | off => exact ⟨⟨hgain.1, hgain.2.1⟩, hgain.2.2⟩
  | slumber => exact ⟨⟨hgain.1, hgain.2.1⟩, hgain.2.2⟩
  | awake =>
    refine ⟨?_, ho.trans (setSlot_onlySlot _ n _), hf.andThen (setSlot_frame _ n _) (by decide) (by decide)⟩
    show ((s.setSlot n ((s.slot n).pinned true)).stopStep n).slot n = _
    rw [stopStep_eq, setSlot_slot_self, hp]
  | draining =>
    by_cases hd : (s.slot n).idleDraining = true
    · simp only [hd, if_true]
      obtain ⟨hslot, hctl, honly, hframe⟩ :=
        cancelDrain_effect (s := s.setSlot n ((s.slot n).pinned true)) (n := n) (by rw [hp]; exact hs)
      rw [hp] at hslot
      exact ⟨⟨hslot, hctl⟩, ho.trans honly, hf.andThen hframe (by decide) (by decide)⟩
    · simp only [hd, Bool.false_eq_true, if_false]
      exact ⟨hp, hstay⟩
  | powering => exact ⟨hp, hstay⟩
  | waking => exact ⟨hp, hstay⟩
  | settling => exact ⟨hp, hstay⟩
  | faulted => exact ⟨hp, hstay⟩

/-- What UNPIN does to a pinned slot (R24), by its state. -/
def PinCleared (n : Slot) (s t : State) : Prop :=
  match (s.slot n).state with
  | .off => t.slot n = (s.slot n).pinned false ∧
      ((∀ e, s.wakeEntry n = some e → e.reasons.drop .pin = ReasonSet.none) → t.listed n = false)
  | .slumber => t.slot n = (s.slot n).pinned false ∧
      ((∀ e, s.wakeEntry n = some e → e.reasons.drop .pin = ReasonSet.none) → t.listed n = false)
  | .awake => t.slot n = { (s.slot n).pinned false with
      step := if s.queue n = [] ∧ s.inFlight n = false ∧ (s.profile n).idleHold ≠ 0 ∧ s.restarting = false
        then some { purpose := .idleHold, ms := (s.profile n).idleHold } else (s.slot n).step }
  | .draining => t.slot n = (s.slot n).pinned false
  | .powering => t.slot n = (s.slot n).pinned false
  | .waking => t.slot n = (s.slot n).pinned false
  | .settling => t.slot n = (s.slot n).pinned false
  | .faulted => t.slot n = (s.slot n).pinned false

theorem unpinSlot_effect (s : State) (n : Slot) :
    PinCleared n s (s.unpinSlot n) ∧ OnlySlot n s (s.unpinSlot n) ∧ Unchanged pinFields s (s.unpinSlot n) := by
  have hp : (s.setSlot n ((s.slot n).pinned false)).slot n = (s.slot n).pinned false := setSlot_slot_self s n _
  have ho : OnlySlot n s (s.setSlot n ((s.slot n).pinned false)) := setSlot_onlySlot s n _
  have hf := setSlot_frame s n ((s.slot n).pinned false)
  have hdraw : ((s.setSlot n ((s.slot n).pinned false)).withdrawReason n .pin).slot n = (s.slot n).pinned false ∧
      OnlySlot n s ((s.setSlot n ((s.slot n).pinned false)).withdrawReason n .pin) ∧
      Unchanged pinFields s ((s.setSlot n ((s.slot n).pinned false)).withdrawReason n .pin) := by
    have fw := withdrawReason_frame (s.setSlot n ((s.slot n).pinned false)) n .pin
    exact ⟨(fw.slot n).trans hp, ho.trans (fw.onlySlot n (by decide) (by decide) (by decide) (by decide)),
      hf.andThen fw (by decide) (by decide)⟩
  have hstay : OnlySlot n s (s.setSlot n ((s.slot n).pinned false)) ∧
      Unchanged pinFields s (s.setSlot n ((s.slot n).pinned false)) := ⟨ho, hf.mono (by decide)⟩
  unfold State.unpinSlot PinCleared
  cases hs : (s.slot n).state with
  | off => exact ⟨⟨hdraw.1, fun h => withdrawReason_listed (s := s.setSlot n ((s.slot n).pinned false)) h⟩, hdraw.2⟩
  | slumber => exact ⟨⟨hdraw.1, fun h => withdrawReason_listed (s := s.setSlot n ((s.slot n).pinned false)) h⟩, hdraw.2⟩
  | awake =>
    refine ⟨?_, ho.trans (startIdleHold_onlySlot _ n), hf.andThen (startIdleHold_frame _ n) (by decide) (by decide)⟩
    have h := startIdleHold_slot (s.setSlot n ((s.slot n).pinned false)) n
    rw [hp] at h
    have hdue : ∀ hold, (s.setSlot n ((s.slot n).pinned false)).idleHoldDue n hold = true ↔
        s.queue n = [] ∧ s.inFlight n = false ∧ hold ≠ 0 ∧ s.restarting = false := fun hold => by
      rw [idleHoldDue_iff, hp]
      simp [SlotRecord.pinned, hs]
    simp only [hdue] at h
    exact h
  | draining => exact ⟨hp, hstay⟩
  | powering => exact ⟨hp, hstay⟩
  | waking => exact ⟨hp, hstay⟩
  | settling => exact ⟨hp, hstay⟩
  | faulted => exact ⟨hp, hstay⟩

/-! ## The end of the two events -/

theorem PinSet.slot_pin (h : PinSet n s t) : (t.slot n).pin = true := by
  unfold PinSet at h
  split at h
  · rw [h.2]; rfl
  · rw [h.2]; rfl
  · rw [h]; rfl
  · split at h
    · rw [h.1]; rfl
    · rw [h]; rfl
  all_goals rw [h]; rfl

theorem PinCleared.slot_pin (h : PinCleared n s t) : (t.slot n).pin = false := by
  unfold PinCleared at h
  split at h
  · rw [h.1]; rfl
  · rw [h.1]; rfl
  all_goals rw [h]; rfl

/-- PIN ends no drain but an idle one, and starts none. -/
theorem PinSet.idleDraining (h : PinSet n s t) (hd : (t.slot n).idleDraining = true) : (s.slot n).idleDraining = true := by
  unfold PinSet at h
  split at h
  · rw [h.2, pinned_idleDraining] at hd; exact hd
  · rw [h.2, pinned_idleDraining] at hd; exact hd
  · rename_i hs
    rw [not_idleDraining_of_state (by rw [h]; show (s.slot n).state ≠ _; rw [hs]; decide)] at hd
    exact Bool.noConfusion hd
  · split at h
    · assumption
    · rw [h, pinned_idleDraining] at hd; exact hd
  all_goals rw [h, pinned_idleDraining] at hd; exact hd

theorem PinSet.andThen (h : PinSet n s t) (f : Unchanged [.immediate, .responses, .passDue] t u) : PinSet n s u := by
  unfold PinSet at h ⊢
  rw [f.slot n, ← (f .control (by decide) : t.control = u.control)]
  split
  · rename_i hs; simp only [hs] at h; exact ⟨h.1.andThen f, h.2⟩
  · rename_i hs; simp only [hs] at h; exact ⟨h.1.andThen f, h.2⟩
  all_goals rename_i hs; simpa only [hs] using h

theorem PinCleared.andThen (h : PinCleared n s t) (f : Unchanged [.immediate, .responses, .evaluationDue, .passDue] t u) :
    PinCleared n s u := by
  unfold PinCleared at h ⊢
  rw [f.slot n, f.listed n]
  exact h

theorem pinFields_claimsSound (f : Unchanged pinFields s t) (h : s.claimsSound) : t.claimsSound := f.claimsSound h

/-- PIN on a slot that is not pinned makes no slot a candidate, since a pinned slot is none (R44). -/
theorem pinOp_acts (c : Taken) (hp : (s.slot n).pin = false) (hcl : s.claimsSound) :
    PinSet n s (pinOp c n s) ∧ OnlySlot n s (pinOp c n s) ∧ (pinOp c n s).immediate = (s.respond c .ok []).immediate ∧
    (pinOp c n s).responses = s.responses ++ [.immediate c.entry] ∧ (pinOp c n s).ingress = s.ingress ∧
    Unchanged ([.immediate, .responses, .passDue] ++ pinFields) s (pinOp c n s) := by
  have hop : pinOp c n s = s.finish ((s.pinSlot n).respond c .ok []) := if_neg (by simp [hp])
  obtain ⟨hset, honly, hframe⟩ := pinSlot_effect s n
  have hclu := pinFields_claimsSound hframe hcl
  have hcom : s.committed = (s.pinSlot n).committed := hframe .committed (by decide)
  have hcand : (s.pinSlot n).candidate n = false := by simp [State.candidate, hset.slot_pin]
  have hnew := newCandidate_respond honly (hframe .exchange (by decide)) c .ok [] (fun h => by simp [hcand] at h)
    hset.idleDraining
  have hfin := finish_frame_pass (respond_claimsSound hclu c .ok []) hcom.le hnew
  have htot := finishRespond_frame_pass hclu hcom.le c .ok [] hnew
  have hresp : s.responses = (s.pinSlot n).responses := hframe .responses (by decide)
  obtain ⟨himm, hres, hing⟩ := finish_answered hframe hfin
  rw [hop]
  exact ⟨hset.andThen htot, honly.trans (htot.onlySlot n (by decide) (by decide) (by decide) (by decide)), himm,
    hres.trans (by rw [← hresp]), hing, hframe.andThen htot (by decide) (by decide)⟩

theorem unpinOp_acts (c : Taken) (hp : (s.slot n).pin = true) (hcl : s.claimsSound) :
    PinCleared n s (unpinOp c n s) ∧ OnlySlot n s (unpinOp c n s) ∧
    (unpinOp c n s).immediate = (s.respond c .ok []).immediate ∧
    (unpinOp c n s).responses = s.responses ++ [.immediate c.entry] ∧ (unpinOp c n s).ingress = s.ingress ∧
    Unchanged ([.immediate, .responses, .passDue] ++ pinFields) s (unpinOp c n s) := by
  have hop : unpinOp c n s = s.finish ((s.unpinSlot n).respond c .ok []) := if_pos hp
  obtain ⟨hset, honly, hframe⟩ := unpinSlot_effect s n
  have hclu := pinFields_claimsSound hframe hcl
  have hcom : s.committed = (s.unpinSlot n).committed := hframe .committed (by decide)
  have hfin := finish_frame_due (respond_claimsSound hclu c .ok []) hcom.le
  have htot := finishRespond_frame hclu hcom.le c .ok []
  have hresp : s.responses = (s.unpinSlot n).responses := hframe .responses (by decide)
  obtain ⟨himm, hres, hing⟩ := finish_answered hframe hfin
  rw [hop]
  exact ⟨hset.andThen htot, honly.trans (htot.onlySlot n (by decide) (by decide) (by decide) (by decide)), himm,
    hres.trans (by rw [← hresp]), hing, hframe.andThen htot (by decide) (by decide)⟩

/-- Settles O31: the two flags by `pinOp_acts` and `unpinOp_acts`, whose outcomes by state are the statement's. -/
theorem pinFlagActsByState : Obligations.PinFlagActsByState := by
  intro set b frame rest c s hdue hk ha hm hcl
  cases set with
  | true =>
    obtain ⟨hbad, hrun⟩ := slotCommand_run hdue hk ha hm pinOp
    refine ⟨hbad, fun n hn => ⟨fun hp => ?_, fun hp => ?_⟩⟩
    · exact (hrun n hn).trans (congrArg _ (if_pos hp))
    · obtain ⟨hset, honly, himm, hres, hing, hframe⟩ :=
        pinOp_acts (s := s.unqueued rest) (n := n) c (by simpa using hp : (s.slot n).pin = false) hcl
      refine ⟨_, hrun n hn, hset.slot_pin, hing, hres, himm, honly, hframe.queue n, hframe.fromIngress, ?_⟩
      unfold PinSet at hset
      cases hs : (s.slot n).state with
      | draining =>
        simp only [show ((s.unqueued rest).slot n).state = .draining from hs] at hset
        by_cases hd : (s.slot n).idleDraining = true
        · simp only [hd, if_true]
          rw [if_pos (show ((s.unqueued rest).slot n).idleDraining = true from hd)] at hset
          refine ⟨?_, ?_, ?_, hset.2⟩
          all_goals rw [hset.1]; rfl
        · simp only [hd, Bool.false_eq_true, if_false]
          rw [if_neg (show ¬ ((s.unqueued rest).slot n).idleDraining = true from hd)] at hset
          exact hset
      | _ =>
        simp only [show ((s.unqueued rest).slot n).state = _ from hs] at hset
        exact hset
  | false =>
    obtain ⟨hbad, hrun⟩ := slotCommand_run hdue hk ha hm unpinOp
    refine ⟨hbad, fun n hn => ⟨fun hp => ?_, fun hp => ?_⟩⟩
    · exact (hrun n hn).trans (congrArg _ (if_neg (fun h => Bool.noConfusion (h.symm.trans hp))))
    · obtain ⟨hset, honly, himm, hres, hing, hframe⟩ :=
        unpinOp_acts (s := s.unqueued rest) (n := n) c (by simpa using hp : (s.slot n).pin = true) hcl
      refine ⟨_, hrun n hn, hset.slot_pin, hing, hres, himm, honly, hframe.queue n, hframe.fromIngress, ?_⟩
      unfold PinCleared at hset
      cases hs : (s.slot n).state with
      | _ =>
        simp only [show ((s.unqueued rest).slot n).state = _ from hs] at hset
        exact hset

end Sys2Proof.Machine
end

section
/-! Slot commands: SLOT_CLEAR (R23, R159), and RESTART (R161). -/

set_option Elab.async false

namespace Sys2Proof.Machine

variable {s t u : State} {n : Slot}

/-! ## SLOT_CLEAR -/

/-- A change of state makes an evaluation due at most where shedding is inactive (R40, R55). -/
theorem changeState_evaluationDue (s : State) (n : Slot) (new : SlotState) (x : List Byte) :
    ∃ b, (s.changeState n new x).evaluationDue = (s.evaluationDue || (b && !s.sheds)) := by
  have hr : (s.reportChange n new x).evaluationDue = s.evaluationDue :=
    ((reportChange_frame s n new x) .evaluationDue (by decide)).symm
  have hsh : (s.reportChange n new x).sheds = s.sheds := (reportChange_frame s n new x).sheds
  have hrel : ∀ (t : State) (a b : Nat), ∃ c, (t.release a b).evaluationDue = (t.evaluationDue || (c && !t.sheds)) := by
    intro t a b
    unfold State.release
    split
    · exact ⟨true, by rw [markEvaluation_due]; rfl⟩
    · exact ⟨false, by simp⟩
  have hlev : ∀ t : State, ∃ c, (t.leaveEvictionSet n).evaluationDue = (t.evaluationDue || (c && !t.sheds)) := by
    intro t
    dsimp only [State.leaveEvictionSet]
    split
    · split
      · exact ⟨true, by rw [markEvaluation_due]; rfl⟩
      · exact ⟨false, by simp⟩
    · exact ⟨false, by simp⟩
  dsimp only [State.changeState]
  generalize hs2 : ({ (s.reportChange n new x).setSlot n ((s.slot n).changed new) with
    useOrder := useOrderAfter (s.reportChange n new x).useOrder n (s.slot n).state new
    control := (s.reportChange n new x).control.filter (fun c => c.slot != n) } : State) = s2
  have e2 : s2.evaluationDue = s.evaluationDue := by subst hs2; exact hr
  have h2 : s2.sheds = s.sheds := by subst hs2; exact hsh
  obtain ⟨c, hc⟩ := hrel s2 (s.slot n).charge ((s.slot n).changed new).charge
  have h3 : (s2.release (s.slot n).charge ((s.slot n).changed new).charge).sheds = s.sheds :=
    (release_frame s2 _ _).sheds.trans h2
  split
  · obtain ⟨d, hd⟩ := hlev (s2.release (s.slot n).charge ((s.slot n).changed new).charge)
    refine ⟨c || d, ?_⟩
    rw [hd, hc, e2, h2, h3]
    cases s.evaluationDue <;> cases c <;> cases d <;> cases s.sheds <;> rfl
  · exact ⟨c, by rw [hc, e2, h2]⟩

/-- A FAULTED slot that has returned to OFF, before its pin is looked at (R23). -/
def State.cleared (s : State) (n : Slot) : State :=
  (s.changeState n .off []).updateSlot n (fun r => { r with failures := 0 })

theorem clearSlot_eq (s : State) (n : Slot) : s.clearSlot n =
    if ((s.cleared n).slot n).pin then (s.cleared n).gainReason n .pin .urgent else s.cleared n := rfl

theorem cleared_slot (s : State) (n : Slot) : (s.cleared n).slot n = { (s.slot n).changed .off with failures := 0 } := by
  unfold State.cleared
  rw [updateSlot_eq, setSlot_slot_self, changeState_slot_self]

theorem cleared_onlySlot (s : State) (n : Slot) : OnlySlot n s (s.cleared n) :=
  (changeState_onlySlot s n .off []).trans (setSlot_onlySlot _ n _)

/-- The return to OFF releases nothing. -/
theorem cleared_frame (hs : (s.slot n).state = .faulted) :
    Unchanged [.slots, .useOrder, .evictionSet, .evaluationDue, .control, .notices, .lostCount, .firstLoss] s (s.cleared n) := by
  have hc : Unchanged [.slots, .useOrder, .evictionSet, .evaluationDue, .control, .notices, .lostCount, .firstLoss] s
      (s.changeState n .off []) := by
    refine (changeState_frame s n .off []).without .committed ?_ (by decide)
    show s.committed = _
    rw [changeState_committed]
    simp [SlotRecord.charge, hs]
  exact hc.trans ((setSlot_frame _ n _).mono (by decide))

/-- What SLOT_CLEAR leaves of a FAULTED slot and of the wake list, before the answer. -/
structure SlotCleared (n : Slot) (s t : State) : Prop where
  slot : t.slot n = { (s.slot n).changed .off with failures := 0 }
  gained : (s.slot n).pin = true →
    (∃ e, t.wakeEntry n = some e ∧ e.reasons.pin = true ∧ e.level = .urgent) ∧
      (s.listed n = false → ReasonGained n .pin .urgent s t)
  kept : (s.slot n).pin = false → t.wake = s.wake ∧ t.joinCounter = s.joinCounter
  others : ∀ m, m ≠ n → t.wakeEntry m = s.wakeEntry m

theorem clearSlot_effect (hs : (s.slot n).state = .faulted) :
    SlotCleared n s (s.clearSlot n) ∧ OnlySlot n s (s.clearSlot n) ∧
    Unchanged [.slots, .useOrder, .evictionSet, .evaluationDue, .control, .notices, .lostCount, .firstLoss, .wake, .joinCounter] s
      (s.clearSlot n) := by
  have hslot := cleared_slot s n
  have honly := cleared_onlySlot s n
  have hf := cleared_frame hs
  have hpin : ((s.cleared n).slot n).pin = (s.slot n).pin := by rw [hslot]; rfl
  rw [clearSlot_eq, hpin]
  by_cases hp : (s.slot n).pin = true
  · rw [if_pos hp]
    have fg := gainReason_frame (s.cleared n) n .pin .urgent
    refine ⟨⟨(fg.slot n).trans hslot, fun _ => ⟨gainReason_pin_entry _ n, fun hl => ?_⟩, fun h => ?_, fun m hm => ?_⟩,
      honly.trans (fg.onlySlot n (by decide) (by decide) (by decide) (by decide)), hf.andThen fg (by decide) (by decide)⟩
    · have hg := gainReason_gained (s.cleared n) n .pin .urgent
      obtain ⟨b, hb⟩ := changeState_evaluationDue s n .off []
      have hed : (s.cleared n).evaluationDue = (s.evaluationDue || (b && !s.sheds)) := hb
      have hnone : s.wakeEntry n = none := (wakeEntry_none_iff s n).mpr hl
      unfold ReasonGained at hg ⊢
      rw [hf.wakeEntry n, hnone, hed, hf.sheds, ← (hf .wake (by decide) : s.wake = _),
        ← (hf .joinCounter (by decide) : s.joinCounter = _)] at hg
      rw [hnone]
      refine ⟨hg.1, hg.2.1, hg.2.2.trans ?_⟩
      cases s.evaluationDue <;> cases b <;> cases s.sheds <;> rfl
    · rw [hp] at h; exact Bool.noConfusion h
    · rw [gainReason_wakeEntry_other _ n .pin .urgent hm]
      exact hf.wakeEntry m
  · rw [if_neg hp]
    exact ⟨⟨hslot, fun h => absurd h hp, fun _ => ⟨(hf .wake (by decide)).symm, (hf .joinCounter (by decide)).symm⟩,
      fun m _ => hf.wakeEntry m⟩, honly, hf.mono (by decide)⟩

theorem SlotCleared.andThen (h : SlotCleared n s t) (f : Unchanged [.immediate, .responses, .passDue] t u) :
    SlotCleared n s u :=
  ⟨(f.slot n).trans h.slot,
    fun hp => ⟨by simpa only [f.wakeEntry n] using (h.gained hp).1, fun hl => ((h.gained hp).2 hl).andThen f⟩,
    fun hp => ⟨(f .wake (by decide)).symm.trans (h.kept hp).1, (f .joinCounter (by decide)).symm.trans (h.kept hp).2⟩,
    fun m hm => (f.wakeEntry m).trans (h.others m hm)⟩

theorem slotClearOp_acts (c : Taken) (hs : (s.slot n).state = .faulted) (hcl : s.claimsSound) :
    SlotCleared n s (slotClearOp c n s) ∧ OnlySlot n s (slotClearOp c n s) ∧
    (slotClearOp c n s).immediate = (s.respond c .ok []).immediate ∧
    (slotClearOp c n s).responses = s.responses ++ [.immediate c.entry] ∧ (slotClearOp c n s).ingress = s.ingress ∧
    Unchanged [.slots, .useOrder, .control, .evictionSet, .wake, .joinCounter, .evaluationDue, .passDue, .notices, .lostCount,
      .firstLoss, .immediate, .responses] s (slotClearOp c n s) := by
  have hop : slotClearOp c n s = s.finish ((s.clearSlot n).respond c .ok []) := if_pos hs
  obtain ⟨hcleared, honly, hframe⟩ := clearSlot_effect hs
  have hclu := hframe.claimsSound hcl
  have hcom : s.committed = (s.clearSlot n).committed := hframe .committed (by decide)
  have hstate : ((s.clearSlot n).slot n).state = .off := by rw [hcleared.slot]; rfl
  have hid : ((s.clearSlot n).slot n).idleDraining = false := not_idleDraining_of_state (by rw [hstate]; decide)
  have hcand := not_candidate_of_state (s := s.clearSlot n) (n := n) (by rw [hstate]; decide) hid
  have hnew := newCandidate_respond honly (hframe .exchange (by decide)) c .ok [] (fun h => by simp [hcand] at h)
    (fun h => by simp [hid] at h)
  have hfin := finish_frame_pass (respond_claimsSound hclu c .ok []) hcom.le hnew
  have htot := finishRespond_frame_pass hclu hcom.le c .ok [] hnew
  have hresp : s.responses = (s.clearSlot n).responses := hframe .responses (by decide)
  obtain ⟨himm, hres, hing⟩ := finish_answered hframe hfin
  rw [hop]
  exact ⟨hcleared.andThen htot, honly.trans (htot.onlySlot n (by decide) (by decide) (by decide) (by decide)), himm,
    hres.trans (by rw [← hresp]), hing, hframe.andThen htot (by decide) (by decide)⟩

/-- Settles O32: the refusals by the branch of the operation, the return to OFF by `slotClearOp_acts`. -/
theorem slotClearReturnsToOff : Obligations.SlotClearReturnsToOff := by
  intro b frame rest c s hdue hk ha hm hcl
  obtain ⟨hbad, hrun⟩ := slotCommand_run hdue hk ha hm slotClearOp
  refine ⟨hbad, fun n hn => ⟨fun hne => (hrun n hn).trans (congrArg _ (if_neg hne)), fun hs => ?_⟩⟩
  obtain ⟨hcleared, honly, himm, hres, hing, hframe⟩ := slotClearOp_acts (s := s.unqueued rest) (n := n) c hs hcl
  have hslot := hcleared.slot
  exact ⟨_, hrun n hn, (congrArg SlotRecord.state hslot :), (congrArg SlotRecord.failures hslot :), (congrArg SlotRecord.pin hslot :),
    (congrArg SlotRecord.grantedAwake hslot :), (congrArg SlotRecord.grantedStandby hslot :), (hframe .fault (by decide)).symm,
    (hframe .committed (by decide)).symm, hcleared.gained, hcleared.kept, hcleared.others, honly, himm, hres, hing, hframe.fromIngress⟩

/-! ## RESTART -/

theorem restartOp_att (c : Taken) (s : State) (n : Slot) : (restartOp c () s).att n = { s.att n with holdoff := none } := by
  simp [restartOp, State.att]

theorem restartOp_queue (c : Taken) (s : State) (n : Slot) :
    (restartOp c () s).queue n = (s.queue n).map (fun r => { r with deadline := none }) := by
  simp [restartOp, State.queue]

theorem restartOp_frame (c : Taken) (s : State) :
    Unchanged [.restart, .immediate, .taking, .stopped, .control, .slots, .queues, .attention] s (restartOp c () s) := by
  intro f hf; cases f <;> first | rfl | exact absurd (by decide) hf

/-- Settles O35: the operation writes out what the statement says, slot by slot. -/
theorem restartStopsTheHub : Obligations.RestartStopsTheHub := by
  intro frame rest c s hdue hk ha hm
  have hrun : exec .restart s = .next (restartOp c () (s.unqueued rest)) := take_managed s hdue hk _ ha hm _
  refine ⟨_, hrun, rfl, rfl, rfl, rfl, rfl, rfl, fun n => ⟨restartOp_slot c _ n, restartOp_att c _ n, restartOp_queue c _ n⟩, ?_⟩
  exact (restartOp_frame c (s.unqueued rest)).fromIngress

end Sys2Proof.Machine
end

section
/-! The countdowns of a slot: step countdown, limit countdown and idle hold. -/

set_option Elab.async false

namespace Sys2Proof.Machine

variable {s t u : State} {n : Slot}

/-! ## The end of an event of a slot that comes up -/

theorem comingUp_ne {st : SlotState} (h : st.comingUp = true) : st ≠ .awake ∧ st ≠ .draining := by
  constructor <;> rintro rfl <;> exact Bool.noConfusion h

/-- An event that leaves a slot coming up, with its state and its pending release, ends as it stands. -/
theorem finish_comingUp (hcl : t.claimsSound) (ho : OnlySlot n s t) (hx : ∀ m, m ≠ n → t.inFlight m = s.inFlight m)
    (hc : s.committed = t.committed) (hs : (s.slot n).state = (t.slot n).state) (hcu : (t.slot n).state.comingUp = true)
    (hp : (s.slot n).pendingRelease = (t.slot n).pendingRelease) : s.finish t = t := by
  obtain ⟨hna, hnd⟩ := comingUp_ne hcu
  have hid := not_idleDraining_of_state hnd
  have hnew : newCandidate s t = false := newCandidate_onlySlot ho hx
    (fun h => by simp [not_candidate_of_state hna hid] at h) (fun h => by simp [hid] at h)
  exact finish_quiet s t hcl hnew (courseChanged_onlySlot ho hc hs hp)

/-! ## Faults up to the end of the event -/

theorem mem_raise {x y : Notice} (h : x ∈ s.notices) : x ∈ (s.raise y).notices := by
  unfold State.raise
  split
  · exact List.mem_append_left _ h
  · exact h

theorem mem_endShedding {x : Notice} (c : ShedEndCause) (h : x ∈ s.notices) : x ∈ (s.endShedding c).notices := by
  unfold State.endShedding
  rw [← (markEvaluation_frame _ .notices (by decide) : State.notices _ = _)]
  exact mem_raise h

/-- The end of an event that serves no claim takes no notice out of the queue. -/
theorem mem_finish {x : Notice} (hcl : t.claimsSound) (h : x ∈ t.notices) : x ∈ (s.finish t).notices := by
  dsimp only [State.finish]
  rw [serveClaims_none t hcl]
  generalize h3 : (if courseChanged s (if newCandidate s t = true then t.markEvaluation else t) = true then
    (if newCandidate s t = true then t.markEvaluation else t).markPass else
    (if newCandidate s t = true then t.markEvaluation else t)) = t3
  have f : Unchanged [.evaluationDue, .passDue] t t3 := by
    rw [← h3]
    exact (Unchanged.ite (fun _ => (markEvaluation_frame t).mono (by decide)) (fun _ => Unchanged.refl _ t)).trans
      (Unchanged.ite (fun _ => (markPass_frame _).mono (by decide)) (fun _ => Unchanged.refl _ _))
  have hm : x ∈ t3.notices := by rw [← (f .notices (by decide) : t.notices = _)]; exact h
  split
  · exact mem_endShedding _ hm
  · exact hm

/-- What may come after the entry to FAULTED in the same event. -/
theorem FaultEntered.andThen {kind : FaultKind} {who : Option (Requester × Byte)} {k : Nat} (h : FaultEntered n kind who k s t)
    (f : Unchanged [.passDue, .shedding, .evaluationDue, .notices, .lostCount, .firstLoss] t u)
    (hm : ∀ x ∈ t.notices, x ∈ u.notices) : FaultEntered n kind who k s u := by
  obtain ⟨hslot, hcom, hqueue, hatt, hwake, horder, hcontrol, hset, hresp, hfault, hnotice, honly, hframe⟩ := h
  have efault : t.fault = u.fault := f .fault (by decide)
  refine ⟨(f.slot n).trans hslot, (f .committed (by decide)).symm.trans hcom, (f.queue n).trans hqueue, (f.att n).trans hatt,
    (f .wake (by decide)).symm.trans hwake, (f .useOrder (by decide)).symm.trans horder,
    (f .control (by decide)).symm.trans hcontrol, (f .evictionSet (by decide)).symm.trans hset,
    (f .responses (by decide)).symm.trans hresp, ?_, fun hroom => ?_,
    honly.trans (f.onlySlot n (by decide) (by decide) (by decide) (by decide)), hframe.trans (f.mono (by decide))⟩
  · unfold FaultLatched at hfault ⊢
    rw [← efault]; exact hfault
  · obtain ⟨x, hx, hrest⟩ := hnotice hroom
    exact ⟨x, hm x hx, by rw [← efault]; exact hrest⟩

/-- A slot that enters FAULTED in an event, at the end of that event. -/
theorem FaultEntered.finish {kind : FaultKind} {who : Option (Requester × Byte)} {k : Nat} {v : State}
    (h : FaultEntered n kind who k s t) (hcl : t.claims = []) : FaultEntered n kind who k s (v.finish t) :=
  h.andThen (finish_sound v t (Or.inl hcl)) (fun _ hx => mem_finish (Or.inl hcl) hx)

theorem FaultEntered.claims {kind : FaultKind} {who : Option (Requester × Byte)} {k : Nat} (h : FaultEntered n kind who k s t) :
    t.claims = s.claims := by
  obtain ⟨-, -, -, -, -, -, -, -, -, -, -, -, hframe⟩ := h
  exact (hframe .claims (by decide)).symm

theorem enterFaulted_exchange (s : State) (n : Slot) (k : FaultKind) : (s.enterFaulted n k).exchange = s.exchange :=
  ((enterFaulted_frame s n k) .exchange (by decide)).symm

/-! ## Step and limit countdown -/

theorem setSlot_claimsSound (h : s.claimsSound) (r : SlotRecord) : (s.setSlot n r).claimsSound :=
  (setSlot_frame s n r).claimsSound h

/-- A step countdown of a slot that comes up can expire: no power-up delay outlasts its timeout. -/
theorem pollDue_of (hrun : s.running = true) (hcu : (s.slot n).state.comingUp = true) {c : StepCountdown}
    (hc : (s.slot n).step = some c) (hp : c.purpose ≠ .idleHold)
    (hd : c.purpose = .powerUpDelay → ∀ ms, (s.slot n).limit = some ms → c.ms < ms) : s.pollDue n = true := by
  simp only [State.pollDue, hrun, hcu, hc, Bool.true_and]
  cases hpu : c.purpose with
  | powerUpDelay =>
    cases hl : (s.slot n).limit with
    | none => rfl
    | some ms => exact decide_eq_true (hd hpu ms hl)
  | wakeDelay => rfl
  | pollInterval => rfl
  | idleHold => exact absurd hpu hp

theorem timeoutFault_timeoutOf (st : SlotState) :
    timeoutFault (timeoutOf st) = if st = .waking then .wakeTimeout else .powerUpTimeout := by
  cases st <;> rfl

/-- The poll countdown of a slot that comes up has expired: its IDENTIFY joins the queue, and nothing else follows. -/
theorem finish_askIdentify (hcl : s.claimsSound) (hcu : (s.slot n).state.comingUp = true) (hst : s.stopped = false) :
    s.finish ((s.stopStep n).askControl n .identify) = { s with
      slots := s.slots.set n { s.slot n with step := none }
      control := s.control ++ [{ slot := n, command := .identify }] } := by
  have hst' : (s.stopStep n).stopped = false := hst
  have hask : (s.stopStep n).askControl n .identify = { s with
      slots := s.slots.set n { s.slot n with step := none }
      control := s.control ++ [{ slot := n, command := .identify }] } := if_neg (by rw [hst']; exact Bool.noConfusion)
  have fask := askControl_frame (s.stopStep n) n .identify
  have fstep : Unchanged [.slots, .control] s ((s.stopStep n).askControl n .identify) :=
    (setSlot_frame s n _).andThen fask (by decide) (by decide)
  have hfl : ∀ m, m ≠ n → ((s.stopStep n).askControl n .identify).inFlight m = s.inFlight m := fun m _ => fstep.inFlight m
  have honly : OnlySlot n s ((s.stopStep n).askControl n .identify) :=
    (setSlot_onlySlot s n _).trans (fask.onlySlot n (by decide) (by decide) (by decide) (by decide))
  have hslot : ((s.stopStep n).askControl n .identify).slot n = { s.slot n with step := none } := by
    rw [fask.slot n]; simp [State.stopStep]
  rw [finish_comingUp (fstep.claimsSound hcl) honly hfl (fstep .committed (by decide))
    (by rw [hslot]) (by rw [hslot]; exact hcu) (by rw [hslot]; rfl), hask]

/-- A slot that comes up is marked timed out (R8). -/
def State.markedTimedOut (s : State) (n : Slot) (k : TimeoutKind) : State :=
  s.updateSlot n (fun r => { r with limit := none, step := none, timedOut := some k })

theorem limitExpiry_run (hdue : s.limitDue n = true) : exec (.limitCountdownExpiry n) s = .next (s.finish
    (if s.inFlight n = true then s.markedTimedOut n (timeoutOf (s.slot n).state)
     else s.enterFaulted n (timeoutFault (timeoutOf (s.slot n).state)))) := by
  have h : exec (.limitCountdownExpiry n) s = event (s.limitDue n) s (fun s =>
      if s.inFlight n = true then s.markedTimedOut n (timeoutOf (s.slot n).state)
      else s.enterFaulted n (timeoutFault (timeoutOf (s.slot n).state))) := rfl
  rw [h, hdue, event_due]

theorem finish_markedTimedOut (hcl : s.claimsSound) (hcu : (s.slot n).state.comingUp = true) (k : TimeoutKind) :
    s.finish (s.markedTimedOut n k) = s.markedTimedOut n k := by
  have hslot : (s.markedTimedOut n k).slot n = { s.slot n with limit := none, step := none, timedOut := some k } := by
    simp [State.markedTimedOut]
  exact finish_comingUp (setSlot_claimsSound hcl _) (setSlot_onlySlot s n _) (fun _ _ => rfl) rfl (by rw [hslot]) (by rw [hslot]; exact hcu)
    (by rw [hslot]; rfl)

theorem timeoutOf_eq (st : SlotState) :
    some (timeoutOf st) = if st = .waking then some TimeoutKind.wake else some .powerUp := by
  cases st <;> rfl

/-- Settles O42: a mark or an asked exchange ends the event as it stands, a fault is `enterFaulted_entered`. -/
theorem comingUpCountdownsExpire : Obligations.ComingUpCountdownsExpire := by
  intro n s hrun hcu hqs
  refine ⟨fun c hc hp hd hst hcl => ?_, fun ms hms => ?_⟩
  · have hexec : exec (.stepCountdownExpiry n) s = event (s.pollDue n) s (fun s => (s.stopStep n).askControl n .identify) := rfl
    rw [hexec, pollDue_of hrun hcu hc hp hd, event_due, finish_askIdentify hcl hcu hst]
  · have hdue : s.limitDue n = true := by simp [State.limitDue, hrun, hcu, hms]
    refine ⟨fun hf hcl => ?_, fun hf hcl => ?_⟩
    · rw [limitExpiry_run hdue, if_pos hf, finish_markedTimedOut hcl hcu, ← timeoutOf_eq]
      rfl
    · have hentered := enterFaulted_entered s n (timeoutFault (timeoutOf (s.slot n).state)) (fun r hr => hqs n r hr) hcl
      have hkind : timeoutFault (timeoutOf (s.slot n).state) ≠ .faultThreshold := by
        rw [timeoutFault_timeoutOf]; split <;> exact FaultKind.noConfusion
      rw [if_neg hkind] at hentered
      have hclt := hentered.claims.trans hcl
      have hexec := limitExpiry_run hdue
      rw [if_neg (by rw [hf]; exact Bool.noConfusion)] at hexec
      refine ⟨_, hexec, ?_, ?_⟩
      · rw [← (finish_sound s _ (Or.inl hclt) .exchange (by decide) : State.exchange _ = _)]
        exact enterFaulted_exchange s n _
      · rw [← timeoutFault_timeoutOf]
        exact hentered.finish hclt

/-! ## Idle hold -/

theorem OffEntered.finish {k : Nat} {v : State} (h : OffEntered n k s t) (hcl : t.claimsSound) :
    OffEntered n k s (v.finish t) :=
  h.andThen ((finish_sound v t hcl).mono (by decide))

/-- An IDLE drain with target SLUMBER of a candidate makes the slot a candidate anew (R44 as log entry 26 reads it). -/
theorem newCandidate_idleDrain (hs : (s.slot n).state = .awake) (hq : (t.slot n).pin = (s.slot n).pin)
    (hatt : t.att n = s.att n) (hqu : t.queue n = s.queue n) (hfl : t.inFlight n = s.inFlight n) (hid : (t.slot n).idleDraining = true)
    (hc : s.candidate n = true) : newCandidate s t = true := by
  have hnot : (s.slot n).idleDraining = false := not_idleDraining_of_state (by rw [hs]; decide)
  have hcand : t.candidate n = true := by
    simp only [State.candidate, State.idleSlot, hnot, hs, Bool.and_eq_true] at hc ⊢
    simpa [hq, hqu, hfl, hid, hatt] using hc
  exact List.any_eq_true.mpr ⟨n, mem_allSlots n, by simp [hcand, hid, hnot]⟩

/-- Settles O43: the drain that stays in DRAINING by `startDrain_held`, the one that ends at once by `startDrain_off_entered`. -/
theorem idleHoldStartsIdleDrain : Obligations.IdleHoldStartsIdleDrain := by
  intro n ms s hrun hs hstep hf hcl
  have hdue : s.idleHoldRunning n = true := by simp [State.idleHoldRunning, hrun, hs, hstep]
  have hexec : exec (.idleHoldExpiry n) s = event (s.idleHoldRunning n) s
      (fun s => s.startDrain n .idle (s.profile n).power.restMode) := rfl
  rw [hdue, event_due] at hexec
  refine ⟨fun hm hst => ?_, fun hm => ?_⟩
  · rw [hm] at hexec
    obtain ⟨hslot, hctl, hframe⟩ := startDrain_held hs .idle .slumber (Or.inr rfl)
    have hclt := hframe.claimsSound hcl
    have hcom : s.committed = (s.startDrain n .idle .slumber).committed := hframe .committed (by decide)
    have hfin := finish_frame_due hclt hcom.le
    refine ⟨_, hexec, (hfin.slot n).trans hslot, ?_, (startDrain_onlySlot s n .idle .slumber).trans
      (hfin.onlySlot n (by decide) (by decide) (by decide) (by decide)), fun hc => ?_, hframe.andThen hfin (by decide) (by decide)⟩
    · rw [← (hfin .control (by decide) : State.control _ = _), hctl, hf, hst]; rfl
    · rw [finish_evaluationDue hclt hcom.le, newCandidate_idleDrain hs (by rw [hslot]; rfl) (hframe.att n) (hframe.queue n) (hframe.inFlight n)
        (by rw [hslot]; rfl) hc, hframe.sheds, ← (hframe .evaluationDue (by decide) : s.evaluationDue = _), Bool.true_and]
  · rw [hm] at hexec
    have hentered := startDrain_off_entered hs .idle hf
    have hclt := startDrain_claimsSound hcl hs .idle .off
    refine ⟨_, hexec, hentered.finish hclt, ?_⟩
    rw [startDrain_off .idle hf] at hclt ⊢
    exact ((((drainBegun_frame hs .idle .off).mono (by decide)).trans ((enterOff_frame_fine _ n _).mono (by decide)))).trans
      ((finish_sound s _ hclt).mono (by decide))

end Sys2Proof.Machine
end

section
/-! Lifetimes: the record that expires, its completion, and the slot whose queue it leaves. -/

set_option Elab.async false

namespace Sys2Proof.Machine

variable {s t u : State} {n : Slot}

/-! ## The end of an event that changes no course -/

theorem courseChanged_congr (h1 : t.committed = u.committed) (h2 : t.slots = u.slots) :
    courseChanged s t = courseChanged s u := by
  simp only [courseChanged, State.slot, h1, h2]

theorem courseChanged_committed (h : courseChanged s t = false) : s.committed = t.committed := by
  simp only [courseChanged, Bool.or_eq_false_iff, bne_eq_false_iff_eq] at h
  exact h.1

/-- An event that changes no course can make an evaluation due and nothing else. -/
theorem finish_sameCourse (hcl : t.claimsSound) (hc : courseChanged s t = false) :
    s.finish t = if newCandidate s t then t.markEvaluation else t := by
  rw [finish_eq hcl (courseChanged_committed hc).le]
  have h2 : courseChanged s (if newCandidate s t = true then t.markEvaluation else t) = false := by
    split
    · have f := markEvaluation_frame t
      rw [← courseChanged_congr (f .committed (by decide)) (f .slots (by decide))]; exact hc
    · exact hc
  exact if_neg (by rw [h2]; exact Bool.noConfusion)

theorem finish_frame_sameCourse (hcl : t.claimsSound) (hc : courseChanged s t = false) :
    Unchanged [.evaluationDue] t (s.finish t) := by
  rw [finish_sameCourse hcl hc]
  exact Unchanged.ite (fun _ => markEvaluation_frame t) (fun _ => Unchanged.refl _ t)

/-! ## A record of a requester completes -/

theorem handOff_posted {x : Record} {r : Requester} {tag : Byte} (ho : x.owner = .requester r) (ht : x.tag = some tag)
    (hop : x.op = .writePosted) {st : Status} (hst : st ≠ .ok) (d : List Byte) (h : Bool) :
    s.handOff x st d h = s.raise
      { kind := .writeLost, stamp := s.timeBase, slot := some x.slot, requesterTag := some (r, tag), unit := x.unit,
        cause := some (.status st), count := 0, data := [] } := by
  simp only [State.handOff, ho, hop, if_neg hst, State.writeLost, ht]
  rfl

theorem handOff_read {x : Record} {r : Requester} (ho : x.owner = .requester r) (hop : x.op = .read) (st : Status)
    (d : List Byte) (h : Bool) : s.handOff x st d h = { s with responses := s.responses ++
      [.record { x with state := .done, deadline := none, status := some st, readData := if st = .ok then some d else none }] } := by
  simp only [State.handOff, ho, hop]

theorem handOff_write {x : Record} {r : Requester} (ho : x.owner = .requester r) (hop : x.op = .write) (st : Status)
    (d : List Byte) (h : Bool) : s.handOff x st d h = { s with responses := s.responses ++
      [.record { x with state := .done, deadline := none, status := some st }] } := by
  simp only [State.handOff, ho, hop]

/-- The completion of a requester's record touches responses and notices only. -/
theorem handOff_frame_requester {x : Record} {r : Requester} (ho : x.owner = .requester r) (st : Status) (d : List Byte)
    (h : Bool) : Unchanged [.responses, .notices, .lostCount, .firstLoss] s (s.handOff x st d h) := by
  unfold State.handOff
  rw [ho]
  dsimp only
  split
  · exact Unchanged.ite (fun _ => Unchanged.refl _ s) (fun _ => (writeLost_frame s x st).mono (by decide))
  · intro f hf; cases f <;> first | rfl | exact absurd (by decide) hf
  · intro f hf; cases f <;> first | rfl | exact absurd (by decide) hf

/-! ## The slot whose queue a record has left -/

theorem queueLeft_nonempty (h : s.queue n ≠ []) : s.queueLeft n = s := by
  simp [State.queueLeft, h]

theorem queueLeft_awake (hq : s.queue n = []) (hs : (s.slot n).state = .awake) : s.queueLeft n = s.startIdleHold n := by
  simp [State.queueLeft, hq, hs]

theorem queueLeft_resting (hq : s.queue n = []) (hs : (s.slot n).state.resting = true) :
    s.queueLeft n = s.withdrawReason n .work := by
  cases h : (s.slot n).state <;> rw [h] at hs <;>
    first | exact Bool.noConfusion hs | simp [State.queueLeft, hq, h]

theorem queueLeft_cases (s : State) (n : Slot) : s.queueLeft n = s ∨ s.queueLeft n = s.startIdleHold n ∨
    s.queueLeft n = s.withdrawReason n .work := by
  unfold State.queueLeft
  split
  · split <;> simp
  · exact Or.inl rfl

theorem queueLeft_frame (s : State) (n : Slot) : Unchanged [.slots, .wake, .evaluationDue] s (s.queueLeft n) := by
  rcases queueLeft_cases s n with h | h | h <;> rw [h]
  · exact Unchanged.refl _ s
  · exact (startIdleHold_frame s n).mono (by decide)
  · exact (withdrawReason_frame s n .work).mono (by decide)

theorem queueLeft_onlySlot (s : State) (n : Slot) : OnlySlot n s (s.queueLeft n) := by
  rcases queueLeft_cases s n with h | h | h <;> rw [h]
  · exact OnlySlot.refl n s
  · exact startIdleHold_onlySlot s n
  · exact (withdrawReason_frame s n .work).onlySlot n (by decide) (by decide) (by decide) (by decide)

/-- Only the step countdown of the slot can change. -/
theorem queueLeft_slot (s : State) (n : Slot) : ∃ step, (s.queueLeft n).slot n = { s.slot n with step := step } := by
  rcases queueLeft_cases s n with h | h | h <;> rw [h]
  · exact ⟨_, rfl⟩
  · exact ⟨_, startIdleHold_slot s n⟩
  · exact ⟨(s.slot n).step, (withdrawReason_frame s n .work).slot n⟩

/-! ## The record that expires -/

theorem expires_eq {r : Requester} {tag : Byte} {x : Record} (h : Record.expires r tag x = true) :
    x.owner = .requester r ∧ x.tag = some tag := by
  simp only [Record.expires, Bool.and_eq_true, beq_iff_eq] at h
  exact ⟨h.1.1.1, h.1.1.2⟩

theorem tagsDistinct_queues (h : s.tagsDistinct) :
    s.queues.toList.flatten.Pairwise (fun x y => x.owner = y.owner → x.owner ≠ .attention → x.tag ≠ y.tag) :=
  (List.pairwise_append.mp h).1

/-- Records of the queues of two slots differ in requester or tag. -/
theorem tagsDistinct_slots (h : s.tagsDistinct) {k m : Slot} (hkm : k < m) {x y : Record} (hx : x ∈ s.queue k)
    (hy : y ∈ s.queue m) (ho : x.owner = y.owner) (ha : x.owner ≠ .attention) : x.tag ≠ y.tag := by
  have hp := (List.pairwise_flatten.mp (tagsDistinct_queues h)).2
  have hl : s.queues.toList.length = 24 := by simp
  have := List.pairwise_iff_getElem.mp hp k.val m.val (by rw [hl]; exact k.isLt) (by rw [hl]; exact m.isLt) hkm x
    (by simpa [State.queue] using hx) y (by simpa [State.queue] using hy)
  exact this ho ha

theorem expires_other_queue (h : s.tagsDistinct) {k : Slot} (hk : k ≠ n) {r : Requester} {tag : Byte} {x y : Record}
    (hx : x ∈ s.queue n) (hex : Record.expires r tag x = true) (hy : y ∈ s.queue k) : Record.expires r tag y = false := by
  refine Bool.eq_false_iff.mpr (fun hey => ?_)
  obtain ⟨hxo, hxt⟩ := expires_eq hex
  obtain ⟨hyo, hyt⟩ := expires_eq hey
  rcases lt_or_gt_of_ne hk with hlt | hlt
  · exact tagsDistinct_slots h hlt hy hx (hyo.trans hxo.symm) (by rw [hyo]; exact Owner.noConfusion) (hyt.trans hxt.symm)
  · exact tagsDistinct_slots h hlt hx hy (hxo.trans hyo.symm) (by rw [hxo]; exact Owner.noConfusion) (hxt.trans hyt.symm)

theorem expires_before (h : s.tagsDistinct) {r : Requester} {tag : Byte} {x : Record} {before after : List Record}
    (hq : s.queue n = before ++ x :: after) (hex : Record.expires r tag x = true) :
    ∀ y ∈ before, Record.expires r tag y = false := by
  intro y hy
  refine Bool.eq_false_iff.mpr (fun hey => ?_)
  obtain ⟨hxo, hxt⟩ := expires_eq hex
  obtain ⟨hyo, hyt⟩ := expires_eq hey
  have hmem : s.queue n ∈ s.queues.toList := by simp [State.queue]
  have hp := (List.pairwise_flatten.mp (tagsDistinct_queues h)).1 _ hmem
  rw [hq] at hp
  exact (List.pairwise_append.mp hp).2.2 y hy x (List.mem_cons_self ..) (hyo.trans hxo.symm)
    (by rw [hyo]; exact Owner.noConfusion) (hyt.trans hxt.symm)

theorem findSome_unique {α β : Type} {f : α → Option β} {a : α} {b : β} (ha : f a = some b) (hn : ∀ k, k ≠ a → f k = none) :
    ∀ l : List α, a ∈ l → l.findSome? f = some b
  | [], h => by simp at h
  | k :: l, h => by
    cases hk : f k with
    | some c =>
      have hka : k = a := by_contra (fun hne => by simp [hn k hne] at hk)
      rw [List.findSome?_cons, hka, ha]
    | none =>
      have hka : a ≠ k := fun e => by simp [← e, ha] at hk
      rw [List.findSome?_cons, hk]
      exact findSome_unique ha hn l ((List.mem_cons.mp h).resolve_left hka)

/-- The record with the requester and the tag is the one that expires, since no two live records share both (R73). -/
theorem expiring_unique (h : s.tagsDistinct) {r : Requester} {tag : Byte} {x : Record} {before after : List Record}
    (hq : s.queue n = before ++ x :: after) (hex : Record.expires r tag x = true) : s.expiring r tag = some (n, x) := by
  refine findSome_unique ?_ (fun k hk => ?_) allSlots (mem_allSlots n)
  · have hb : before.find? (Record.expires r tag) = none :=
      List.find?_eq_none.mpr (fun y hy => by rw [expires_before h hq hex y hy]; exact Bool.noConfusion)
    rw [hq, List.find?_append, hb, List.find?_cons, hex]
    rfl
  · have hk0 : (s.queue k).find? (Record.expires r tag) = none := List.find?_eq_none.mpr (fun y hy => by
      rw [expires_other_queue h hk (by rw [hq]; simp) hex hy]; exact Bool.noConfusion)
    rw [hk0]; rfl

theorem eraseP_expires (h : s.tagsDistinct) {r : Requester} {tag : Byte} {x : Record} {before after : List Record}
    (hq : s.queue n = before ++ x :: after) (hex : Record.expires r tag x = true) :
    (s.queue n).eraseP (Record.expires r tag) = before ++ after := by
  rw [hq, List.eraseP_append_right _ (fun y hy => by rw [expires_before h hq hex y hy]; exact Bool.noConfusion),
    List.eraseP_cons_of_pos hex]

/-! ## LIFETIME_EXPIRY -/

/-- The state in which the record has left its queue and completed EXPIRED. -/
def State.lapsed (s : State) (n : Slot) (x : Record) (left : List Record) : State :=
  (s.setQueue n left).handOff x .expired [] true

theorem lapsed_frame (n : Slot) {x : Record} {r : Requester} (ho : x.owner = .requester r) (left : List Record) :
    Unchanged [.queues, .responses, .notices, .lostCount, .firstLoss] s (s.lapsed n x left) :=
  (setQueue_frame s n left).andThen (handOff_frame_requester ho _ _ _) (by decide) (by decide)

theorem lapsed_queue {x : Record} {r : Requester} (ho : x.owner = .requester r) (left : List Record) :
    (s.lapsed n x left).queue n = left := by
  rw [State.lapsed, (handOff_frame_requester ho .expired [] true).queue n]; simp

/-- The event is the completion of the record, what its slot does then, and the end of the event. -/
theorem lifetimeExpiry_run (hrun : s.running = true) (h : s.tagsDistinct) {r : Requester} {tag : Byte} {x : Record}
    {before after : List Record} (hq : s.queue n = before ++ x :: after) (hex : Record.expires r tag x = true) :
    exec (.lifetimeExpiry r tag) s = .next (s.finish ((s.lapsed n x (before ++ after)).queueLeft n)) := by
  have hexec : exec (.lifetimeExpiry r tag) s = match s.expiring r tag with
    | none => .next s
    | some (n, x) => event s.running s (fun s =>
        ((s.setQueue n ((s.queue n).eraseP (Record.expires r tag))).handOff x .expired [] true).queueLeft n) := rfl
  rw [hexec, expiring_unique h hq hex]
  dsimp only
  rw [hrun, event_due, eraseP_expires h hq hex]
  rfl

/-- Settles O44: the record found is the one with the tag, and the event changes no course. -/
theorem lifetimeExpiryCompletesRecord : Obligations.LifetimeExpiryCompletesRecord := by
  intro n r tag ms x before after s hrun htags hcl hq ho htag hst hdl hslot
  have hex : Record.expires r tag x = true := by simp [Record.expires, ho, htag, hst, hdl]
  have flap := lapsed_frame (s := s) n ho (before ++ after)
  have hqlap := lapsed_queue (s := s) (n := n) ho (before ++ after)
  have fleft := queueLeft_frame (s.lapsed n x (before ++ after)) n
  have ftot : Unchanged [.queues, .responses, .notices, .lostCount, .firstLoss, .slots, .wake, .evaluationDue] s
      ((s.lapsed n x (before ++ after)).queueLeft n) := flap.andThen fleft (by decide) (by decide)
  have honly : OnlySlot n s ((s.lapsed n x (before ++ after)).queueLeft n) :=
    ((setQueue_onlySlot s n _).trans (handOff_onlySlot _ n x _ _ _ hslot)).trans (queueLeft_onlySlot _ n)
  obtain ⟨step, hleft⟩ := queueLeft_slot (s.lapsed n x (before ++ after)) n
  rw [flap.slot n] at hleft
  have hclt : ((s.lapsed n x (before ++ after)).queueLeft n).claimsSound :=
    Or.inl ((ftot .claims (by decide) : s.claims = _).symm.trans hcl)
  have hcourse : courseChanged s ((s.lapsed n x (before ++ after)).queueLeft n) = false :=
    courseChanged_onlySlot honly (ftot .committed (by decide)) (by rw [hleft]) (by rw [hleft]; rfl)
  have ffin := finish_frame_sameCourse hclt hcourse
  have fend : Unchanged [.slots, .wake, .evaluationDue] (s.lapsed n x (before ++ after))
      (s.finish ((s.lapsed n x (before ++ after)).queueLeft n)) := fleft.andThen ffin (by decide) (by decide)
  refine ⟨_, lifetimeExpiry_run hrun htags hq hex, (fend.queue n).trans hqlap, ?_, fun hne => ?_, fun he => ⟨fun hs => ?_, fun hs hw => ?_⟩,
    honly.trans (ffin.onlySlot n (by decide) (by decide) (by decide) (by decide)), ftot.andThen ffin (by decide) (by decide)⟩
  · have eresp : State.responses _ = State.responses _ := (fend .responses (by decide)).symm
    have enot : State.notices _ = State.notices _ := (fend .notices (by decide)).symm
    have elost : State.lostCount _ = State.lostCount _ := (fend .lostCount (by decide)).symm
    have eloss : State.firstLoss _ = State.firstLoss _ := (fend .firstLoss (by decide)).symm
    unfold NoticeRaised
    rw [eresp, enot, elost, eloss]
    cases hop : x.op with
    | read => rw [State.lapsed, handOff_read ho hop, hop]; exact ⟨rfl, rfl⟩
    | write => rw [State.lapsed, handOff_write ho hop, hop]; exact ⟨rfl, rfl⟩
    | writePosted =>
      rw [State.lapsed, handOff_posted ho htag hop (by decide), hslot]
      exact ⟨((raise_frame _ _) .responses (by decide)).symm, raise_raised (s.setQueue n (before ++ after)) _⟩
  · rw [queueLeft_nonempty (by rw [hqlap]; exact hne)] at ffin ⊢
    exact ⟨(ffin.slot n).trans (flap.slot n), ((ffin .wake (by decide)).symm.trans (flap .wake (by decide)).symm)⟩
  · have hq0 := hqlap.trans he
    have hs0 : ((s.lapsed n x (before ++ after)).slot n).state = .awake := by rw [flap.slot n]; exact hs
    rw [ffin.slot n, queueLeft_awake hq0 hs0, startIdleHold_slot, flap.slot n, flap.profile n]
    have hdue : (s.lapsed n x (before ++ after)).idleHoldDue n (s.profile n).idleHold = true ↔
        (s.slot n).pin = false ∧ s.inFlight n = false ∧ (s.profile n).idleHold ≠ 0 ∧ s.restarting = false := by
      rw [idleHoldDue_iff, hs0, flap.slot n, hq0, flap.inFlight n, flap.restarting]
      simp
    simp only [hdue]
  · have hs0 : ((s.lapsed n x (before ++ after)).slot n).state.resting = true := by rw [flap.slot n]; exact hs
    rw [queueLeft_resting (hqlap.trans he) hs0] at ffin ⊢
    rw [ffin.listed n]
    exact withdrawReason_listed (fun e hwe => hw e (by rwa [flap.wakeEntry n] at hwe))

end Sys2Proof.Machine
end

section
/-! The end of an attempt: its command, the exchange that has ended, and the fault threshold. -/

set_option Elab.async false

namespace Sys2Proof.Machine

variable {s t u : State} {n : Slot} {e : Exchange} {o : AttemptOutcome} {c : Instr}

/-! ## The end of an attempt -/

/-- The command in which an attempt ends is the end of that attempt (R97, R98). -/
theorem attemptEnds_run (h : AttemptEnds c e o s) : exec c s = .next (s.finish (s.attemptEnd e o)) := by
  obtain ⟨hrun, hx, hc⟩ := h
  cases c with
  | responseTimeoutExpiry =>
    have hexec : exec .responseTimeoutExpiry s = match s.exchange with
      | none => .next s
      | some e => event (s.running && s.responseTimeout.isSome) s (fun s => match e.phase with
        | .sending => s
        | .awaiting => s.attemptEnd e .timeout
        | .receiving => s.attemptEnd e .checkError) := rfl
    rw [hexec, hx]
    dsimp only
    cases hp : e.phase with
    | sending => simp [hp] at hc
    | awaiting =>
      simp only [hp] at hc
      obtain ⟨ht, rfl⟩ := hc
      rw [hrun, Option.isSome_iff_ne_none.mpr ht]
      rfl
    | receiving =>
      simp only [hp] at hc
      obtain ⟨ht, rfl⟩ := hc
      rw [hrun, Option.isSome_iff_ne_none.mpr ht]
      rfl
  | replyEnd bytes =>
    have hexec : exec (.replyEnd bytes) s = match s.exchange with
      | none => .next s
      | some e => event (s.inPhase .receiving) s
          (fun s => s.attemptEnd e (judgeReply e.slot e.command ((e.frame[4]?.getD 0).toNat) bytes)) := rfl
    cases hp : e.phase with
    | sending => simp [hp] at hc
    | awaiting => simp [hp] at hc
    | receiving =>
      simp only [hp] at hc
      have hphase : s.inPhase .receiving = true := by simp [State.inPhase, hrun, hx, hp]
      rw [hexec, hx]
      dsimp only
      rw [hphase, hc]
      rfl
  | _ => exact absurd hc (by simp)

theorem AttemptEnds.exchange (h : AttemptEnds c e o s) : s.exchange = some e := by
  obtain ⟨-, hx, -⟩ := h
  exact hx

theorem failuresAfter_eq {command : ChainCommand} (h : command ≠ .identify) (k : Nat) :
    failuresAfter command o k = countAfter o k := by
  cases o <;> simp [failuresAfter, h, AttemptOutcome.isFailure, countAfter]

/-- The state in which the attempt is counted and the exchange has ended (R101, R103). -/
def State.ended (s : State) (e : Exchange) (o : AttemptOutcome) : State := (s.counted e o).freed

theorem ended_frame (s : State) (e : Exchange) (o : AttemptOutcome) :
    Unchanged [.slots, .exchange, .responseTimeout] s (s.ended e o) :=
  (setSlot_frame s e.slot _).andThen (freed_frame _) (by decide) (by decide)

theorem ended_onlySlot (s : State) (e : Exchange) (o : AttemptOutcome) : OnlySlot e.slot s (s.ended e o) :=
  (setSlot_onlySlot s e.slot _).trans ((freed_frame _).onlySlot _ (by decide) (by decide) (by decide) (by decide))

theorem ended_slot (s : State) (e : Exchange) (o : AttemptOutcome) : (s.ended e o).slot e.slot =
    { s.slot e.slot with failures := failuresAfter e.command o (s.slot e.slot).failures } :=
  setSlot_slot_self s e.slot _

theorem ended_inFlight (s : State) (e : Exchange) (o : AttemptOutcome) (m : Slot) : (s.ended e o).inFlight m = false := rfl

@[simp] theorem ended_exchange (s : State) (e : Exchange) (o : AttemptOutcome) : (s.ended e o).exchange = none := rfl

/-- The count has reached the threshold: the slot faults, whatever the exchange (R102). -/
theorem attemptEnd_threshold (hc : e.command ≠ .identify) (ho : o = .timeout ∨ o = .checkError)
    (ht : s.chain.faultThreshold ≤ countAfter o (s.slot e.slot).failures) :
    s.attemptEnd e o = (s.ended e o).enterFaulted e.slot .faultThreshold := by
  have hr : reachesThreshold e.command o (s.slot e.slot).failures s.chain.faultThreshold = true := by
    rcases ho with rfl | rfl <;> simp [reachesThreshold, hc, AttemptOutcome.isFailure, failuresAfter_eq hc, ht]
  rw [attemptEnd_eq, if_pos hr]
  rfl

/-- Below the threshold, an attempt that calls for no retry ends its exchange (R100, R103). -/
theorem attemptEnd_over (hb : e.command = .identify ∨ s.belowThreshold e.slot o)
    (hr : e.command = .wake ∨ e.command = .identify ∨ s.attemptsOver e o) :
    s.attemptEnd e o = (s.counted e o).exchangeEnd e o := by
  have hb' : ¬ reachesThreshold e.command o (s.slot e.slot).failures s.chain.faultThreshold = true := by
    intro h
    simp only [reachesThreshold, Bool.and_eq_true, bne_iff_ne, ne_eq, decide_eq_true_eq] at h
    obtain ⟨⟨hne, hfail⟩, hle⟩ := h
    rw [failuresAfter_eq hne] at hle
    have hlt := (hb.resolve_left hne) (by cases o <;> first | exact Or.inl rfl | exact Or.inr rfl | exact Bool.noConfusion hfail)
    omega
  have hr' : ¬ (retryCalled e.command o = true ∧ e.attempt < s.chain.retryLimit) := by
    rintro ⟨hcall, hlt⟩
    rcases hr with h | h | h
    · rw [h] at hcall; exact Bool.noConfusion hcall
    · rw [h] at hcall; exact Bool.noConfusion hcall
    · rcases h with ⟨d, rfl⟩ | rfl | rfl | h
      · simp [retryCalled] at hcall
      · simp [retryCalled] at hcall
      · simp [retryCalled] at hcall
      · omega
  rw [attemptEnd_eq, if_neg hb', if_neg hr']

/-! ## Faults of the slot whose exchange has ended -/

/-- What may come before the entry to FAULTED in the same event: the count, and the end of the exchange. -/
theorem FaultEntered.after {kind : FaultKind} {who : Option (Requester × Byte)} {k j : Nat} (h : FaultEntered n kind who k t u)
    (f : Unchanged [.slots, .exchange, .responseTimeout] s t) (ho : OnlySlot n s t)
    (hr : t.slot n = { s.slot n with failures := j }) : FaultEntered n kind who k s u := by
  obtain ⟨hslot, hcom, hqueue, hatt, hwake, horder, hcontrol, hset, hresp, hfault, hnotice, honly, hframe⟩ := h
  have efault : s.fault = t.fault := f .fault (by decide)
  have etime : s.timeBase = t.timeBase := f .timeBase (by decide)
  have equeue : t.queue n = s.queue n := f.queue n
  have enotices : s.notices = t.notices := f .notices (by decide)
  have hcharge : (t.slot n).charge = (s.slot n).charge := by rw [hr]; rfl
  refine ⟨by rw [hslot, hr], by rw [hcom, hcharge, ← (f .committed (by decide) : s.committed = _)], hqueue, hatt,
    by rw [hwake, ← (f .wake (by decide) : s.wake = _)], by rw [horder, ← (f .useOrder (by decide) : s.useOrder = _)],
    by rw [hcontrol, ← (f .control (by decide) : s.control = _)], by rw [hset, ← (f .evictionSet (by decide) : s.evictionSet = _)],
    ?_, ?_, ?_, ho.trans honly, (f.mono (by decide)).trans hframe⟩
  · rw [hresp, ← (f .responses (by decide) : s.responses = _), State.awaited, State.awaited, equeue]
  · unfold FaultLatched at hfault ⊢
    rw [efault, etime]; exact hfault
  · rw [efault, etime, enotices, ← equeue]; exact hnotice

/-- A slot that faults as its exchange ends, at the end of the event. -/
theorem faultEntered_ended (kind : FaultKind) (hq : s.queuesSound) (hcl : s.claims = []) :
    let t := s.finish ((s.ended e o).enterFaulted e.slot kind)
    t.exchange = none ∧ t.responseTimeout = none ∧
      FaultEntered e.slot kind (if kind = .faultThreshold then (s.ended e o).inFlightOwner e.slot else none)
        (failuresAfter e.command o (s.slot e.slot).failures) s t := by
  have hbase := ended_frame s e o
  have hentered := enterFaulted_entered (s.ended e o) e.slot kind
    (fun r hr => hq e.slot r (by rwa [hbase.queue e.slot] at hr)) ((hbase .claims (by decide) : s.claims = _).symm.trans hcl)
  have hclt := hentered.claims.trans ((hbase .claims (by decide) : s.claims = _).symm.trans hcl)
  have hframe := enterFaulted_frame (s.ended e o) e.slot kind
  have hfin := finish_sound s ((s.ended e o).enterFaulted e.slot kind) (Or.inl hclt)
  have hslot := ended_slot s e o
  refine ⟨(hfin .exchange (by decide)).symm.trans (hframe .exchange (by decide)).symm,
    (hfin .responseTimeout (by decide)).symm.trans (hframe .responseTimeout (by decide)).symm, ?_⟩
  have hfail : ((s.ended e o).slot e.slot).failures = failuresAfter e.command o (s.slot e.slot).failures := by rw [hslot]
  rw [hfail] at hentered
  exact (hentered.after hbase (ended_onlySlot s e o) hslot).finish hclt

/-- A slot that enters OFF as its exchange ends, at the end of the event. -/
theorem offEntered_ended (x : Bool) (hcl : s.claims = []) :
    let t := s.finish ((s.ended e o).enterOff e.slot x)
    t.exchange = none ∧ t.responseTimeout = none ∧
      OffEntered e.slot (failuresAfter e.command o (s.slot e.slot).failures) s t := by
  have hbase := ended_frame s e o
  have hentered := enterOff_entered (s.ended e o) e.slot x
  have hclb : (s.ended e o).claimsSound := Or.inl ((hbase .claims (by decide) : s.claims = _).symm.trans hcl)
  have hclt := enterOff_claimsSound (n := e.slot) hclb x
  have hframe := enterOff_frame (s.ended e o) e.slot x
  have hfin := finish_sound s _ hclt
  have hslot := ended_slot s e o
  refine ⟨(hfin .exchange (by decide)).symm.trans (hframe .exchange (by decide)).symm,
    (hfin .responseTimeout (by decide)).symm.trans (hframe .responseTimeout (by decide)).symm, ?_⟩
  have hfail : ((s.ended e o).slot e.slot).failures = failuresAfter e.command o (s.slot e.slot).failures := by rw [hslot]
  rw [hfail] at hentered
  refine (hentered.after (hbase.mono (by decide)) (ended_onlySlot s e o) (by rw [hslot]; rfl) (by rw [hslot]; rfl) ?_).finish hclt
  rw [← (hbase .control (by decide) : s.control = _)]

/-- The record in flight is the DISPATCHED head of its queue, and a requester may own it (R173). -/
theorem inFlightOwner_eq (s : State) (n : Slot) : s.inFlightOwner n =
    match s.queue n with
    | [] => none
    | r :: _ => match r.state, r.owner, r.tag with
      | .dispatched, .requester q, some tag => some (q, tag)
      | _, _, _ => none := by
  unfold State.inFlightOwner State.dispatchedRecord
  cases hq : s.queue n with
  | nil => rfl
  | cons r rest =>
    cases hs : r.state with
    | dispatched =>
      simp only [List.head?_cons, Option.filter_some, hs, beq_self_eq_true, if_true]
      cases r.owner <;> cases r.tag <;> rfl
    | _ => simp only [List.head?_cons, Option.filter_some, hs]; rfl

/-- Settles O49: the attempt that reaches the threshold ends in the entry to FAULTED, taken from the counted state. -/
theorem thresholdFaultsSlot : Obligations.ThresholdFaultsSlot := by
  intro c e o s hends hcl hq ho hc ht
  have hrun := attemptEnds_run hends
  rw [attemptEnd_threshold hc ho ht] at hrun
  obtain ⟨hx, hto, hfault⟩ := faultEntered_ended (e := e) (o := o) .faultThreshold hq hcl
  rw [if_pos rfl, failuresAfter_eq hc, inFlightOwner_eq, (ended_frame s e o).queue e.slot] at hfault
  exact ⟨_, hrun, hx, hto, hfault⟩

end Sys2Proof.Machine
end

section
/-! The ends of WAKE and SLUMBER exchanges. -/

set_option Elab.async false

namespace Sys2Proof.Machine

variable {s t u : State} {n : Slot} {e : Exchange} {o : AttemptOutcome} {c : Instr}

/-! ## A countdown that the end of an exchange loads -/

theorem ended_setSlot (s : State) (e : Exchange) (o : AttemptOutcome) (r : SlotRecord) :
    (s.ended e o).setSlot e.slot r =
      { s with exchange := none, responseTimeout := none, slots := s.slots.set e.slot r } := by
  simp [State.ended, State.counted, State.freed, State.setSlot]

theorem loadPoll_loaded (p : StepPurpose) {ms : Nat} (hr : s.restarting = false) (hms : ms ≠ 0) :
    s.loadPoll n p ms = s.setSlot n { s.slot n with step := some { purpose := p, ms := ms } } := by
  simp [State.loadPoll, hr, hms, State.updateSlot]

/-- The end of an exchange that loads a countdown of a slot that comes up ends the event as it stands. -/
theorem finish_loadPoll (hx : s.exchange = some e) (hcl : s.claims = []) (hcu : (s.slot e.slot).state.comingUp = true)
    (hr : s.restarting = false) (p : StepPurpose) {ms : Nat} (hms : ms ≠ 0) :
    s.finish ((s.ended e o).loadPoll e.slot p ms) = { s with
      exchange := none
      responseTimeout := none
      slots := s.slots.set e.slot { s.slot e.slot with
        failures := failuresAfter e.command o (s.slot e.slot).failures, step := some { purpose := p, ms := ms } } } := by
  have hbase := ended_frame s e o
  rw [loadPoll_loaded p (hbase.restarting.trans hr) hms, ended_slot, ← ended_setSlot s e o]
  have hframe := setSlot_frame (s.ended e o) e.slot { s.slot e.slot with
    failures := failuresAfter e.command o (s.slot e.slot).failures, step := some { purpose := p, ms := ms } }
  refine finish_comingUp (n := e.slot) (Or.inl ?_) ((ended_onlySlot s e o).trans (setSlot_onlySlot _ _ _)) (fun m hm => ?_) ?_ ?_ ?_ ?_
  · exact (hbase .claims (by decide) : s.claims = _).symm.trans hcl
  · exact inFlight_other (fun x hs => by rw [hx] at hs; rw [← Option.some.inj hs]) (fun x ht => by
      rw [← (hframe .exchange (by decide) : (s.ended e o).exchange = _), ended_exchange] at ht
      exact Option.noConfusion rfl (heq_of_eq ht)) hm
  · exact hbase .committed (by decide)
  · rw [setSlot_slot_self]
  · rw [setSlot_slot_self]; exact hcu
  · rw [setSlot_slot_self]; rfl

/-! ## Entering SLUMBER -/

/-- A slot that enters SLUMBER: its marks and countdowns clear, its charge at standby, and listed as R16 has it. -/
theorem enterSlumber_effect (hs : (s.slot n).state = .settling) (x : Bool) :
    (s.enterSlumber n x).slot n = (s.slot n).changed .slumber ∧
    (s.enterSlumber n x).committed = s.committed - ((s.slot n).grantedAwake - (s.slot n).grantedStandby) ∧
    (s.enterSlumber n x).evictionSet = s.evictionSet.filter (· != n) ∧
    (s.queue n ≠ [] ∨ (s.slot n).pin = true ∧ x = false → (s.enterSlumber n x).listed n = true) ∧
    OnlySlot n s (s.enterSlumber n x) ∧
    Unchanged [.slots, .useOrder, .committed, .evictionSet, .evaluationDue, .control, .notices, .lostCount, .firstLoss, .wake,
      .joinCounter] s (s.enterSlumber n x) := by
  have fc := changeState_frame s n .slumber []
  have hself := changeState_slot_self s n .slumber []
  have frest := gainAtRest_frame (s.changeState n .slumber []) n x
  have hatt : ∀ v : State, Unchanged [.wake, .joinCounter, .evaluationDue] v
      (if (v.att n).phase = .waitingAwake then v.gainReason n .attention (v.profile n).attentionLevel else v) := fun v =>
    Unchanged.ite (fun _ => gainReason_frame v n _ _) (fun _ => Unchanged.refl _ v)
  have hlisted : ∀ v : State, v.listed n = true →
      (if (v.att n).phase = .waitingAwake then v.gainReason n .attention (v.profile n).attentionLevel else v).listed n = true :=
    fun v hv => by
      split
      · exact gainReason_listed v n _ _
      · exact hv
  have f2 := frest.trans (hatt ((s.changeState n .slumber []).gainAtRest n x))
  have hdef : s.enterSlumber n x = if (((s.changeState n .slumber []).gainAtRest n x).att n).phase = .waitingAwake then
      ((s.changeState n .slumber []).gainAtRest n x).gainReason n .attention
        (((s.changeState n .slumber []).gainAtRest n x).profile n).attentionLevel
    else (s.changeState n .slumber []).gainAtRest n x := rfl
  rw [hdef]
  refine ⟨(f2.slot n).trans hself, ?_, ?_, fun h => hlisted _ (gainAtRest_listed _ n x ?_),
    (changeState_onlySlot s n .slumber []).trans (f2.onlySlot n (by decide) (by decide) (by decide) (by decide)),
    fc.andThen f2 (by decide) (by decide)⟩
  · rw [← (f2 .committed (by decide) : State.committed _ = State.committed _), changeState_committed]
    simp [SlotRecord.charge, SlotRecord.changed, hs]
  · rw [← (f2 .evictionSet (by decide) : State.evictionSet _ = State.evictionSet _), changeState_evictionSet]
    simp
  · rw [fc.queue n, hself]; exact h

/-! ## The ends of the two exchanges -/

theorem statusOf_eq (o : AttemptOutcome) : outcomeStatus o = statusOf o := by
  cases o <;> rfl

/-- The end of a WAKE exchange, by the marks of the slot (R8, R9, R19). -/
theorem wakeEnd_off {k : SwitchOffKind} (h : (s.slot n).switchOff = some k) : s.wakeEnd n = s.enterOff n (k == .offcmd) := by
  simp only [State.wakeEnd, h]

theorem wakeEnd_fault {k : TimeoutKind} (h : (s.slot n).switchOff = none) (ht : (s.slot n).timedOut = some k) :
    s.wakeEnd n = s.enterFaulted n (timeoutFault k) := by
  simp only [State.wakeEnd, h, ht]

theorem wakeEnd_load (h : (s.slot n).switchOff = none) (ht : (s.slot n).timedOut = none) :
    s.wakeEnd n = s.loadPoll n .wakeDelay (s.profile n).power.wakeDelay := by
  simp only [State.wakeEnd, h, ht]

/-- The end of a SLUMBER exchange, by the drain and the outcome (R17). -/
theorem slumberEnd_done {cause : DrainCause} {d : List Byte}
    (h : (s.slot n).drain = some { cause := cause, target := .slumber }) :
    s.slumberEnd n (.done d) = s.enterSlumber n (restExempt cause) := by
  simp only [State.slumberEnd, h]

theorem slumberEnd_failed {cause : DrainCause} (h : (s.slot n).drain = some { cause := cause, target := .slumber })
    (ho : ∀ d, o ≠ .done d) : s.slumberEnd n o =
      (s.enterOff n (restExempt cause)).reportFault n .slumberFailed none .slumberFailed (.status (outcomeStatus o)) := by
  cases o with
  | done d => exact absurd rfl (ho d)
  | _ => simp only [State.slumberEnd, h]

theorem slumberEnd_off {cause : DrainCause} (h : (s.slot n).drain = some { cause := cause, target := .off }) :
    s.slumberEnd n o = s.enterOff n (restExempt cause) := by
  simp only [State.slumberEnd, h]

theorem finish_fault (h : t.claimsSound) : (s.finish t).fault = t.fault :=
  ((finish_sound s t h) .fault (by decide)).symm

theorem enterOff_fault (s : State) (n : Slot) (x : Bool) : (s.enterOff n x).fault = s.fault :=
  ((enterOff_frame s n x) .fault (by decide)).symm

/-- Settles O52, first half: the end of a WAKE exchange. -/
theorem wakeDecidesSlot (hends : AttemptEnds c e o s) (hb : s.belowThreshold e.slot o) (hcl : s.claims = [])
    (hqs : s.queuesSound) (hc : e.command = .wake) (hs : (s.slot e.slot).state = .waking) :
    ((s.slot e.slot).switchOff = none → (s.slot e.slot).timedOut = none → s.restarting = false →
      (s.profile e.slot).power.wakeDelay ≠ 0 → exec c s = .next { s with
        exchange := none
        responseTimeout := none
        slots := s.slots.set e.slot { s.slot e.slot with
          failures := countAfter o (s.slot e.slot).failures
          step := some { purpose := .wakeDelay, ms := (s.profile e.slot).power.wakeDelay } } }) ∧
    ((s.slot e.slot).switchOff = none → (s.slot e.slot).timedOut = some .wake →
      ∃ t, exec c s = .next t ∧ t.exchange = none ∧ t.responseTimeout = none ∧
        FaultEntered e.slot .wakeTimeout none (countAfter o (s.slot e.slot).failures) s t) ∧
    (∀ kind, (s.slot e.slot).switchOff = some kind →
      ∃ t, exec c s = .next t ∧ t.exchange = none ∧ t.responseTimeout = none ∧
        OffEntered e.slot (countAfter o (s.slot e.slot).failures) s t) := by
  have hcount : failuresAfter e.command o (s.slot e.slot).failures = countAfter o (s.slot e.slot).failures :=
    failuresAfter_eq (by rw [hc]; exact ChainCommand.noConfusion) _
  have hslot := ended_slot s e o
  have hend : s.attemptEnd e o = (s.ended e o).wakeEnd e.slot := by
    rw [attemptEnd_over (Or.inr hb) (Or.inl hc), exchangeEnd_eq, hc]
    rfl
  have hrun := attemptEnds_run hends
  rw [hend] at hrun
  refine ⟨fun ho ht hr hw => ?_, fun ho ht => ?_, fun kind hk => ?_⟩
  · rw [hrun, wakeEnd_load (by rw [hslot]; exact ho) (by rw [hslot]; exact ht), (ended_frame s e o).profile e.slot,
      finish_loadPoll hends.exchange hcl (by rw [hs]; rfl) hr .wakeDelay hw, hcount]
  · rw [wakeEnd_fault (by rw [hslot]; exact ho) (by rw [hslot]; exact ht)] at hrun
    obtain ⟨hx, hto, hfault⟩ := faultEntered_ended (e := e) (o := o) .wakeTimeout hqs hcl
    rw [if_neg (by decide), hcount] at hfault
    exact ⟨_, hrun, hx, hto, hfault⟩
  · rw [wakeEnd_off (by rw [hslot]; exact hk)] at hrun
    obtain ⟨hx, hto, hoff⟩ := offEntered_ended (e := e) (o := o) (kind == .offcmd) hcl
    rw [hcount] at hoff
    exact ⟨_, hrun, hx, hto, hoff⟩

/-- Settles O52, second half: the SLUMBER exchange of a drain towards SLUMBER is answered DONE. -/
theorem slumberDoneEntersSlumber (hs : (s.slot e.slot).state = .settling) (hcl : s.claims = []) (x : Bool) :
    let t := s.finish ((s.ended e o).enterSlumber e.slot x)
    t.exchange = none ∧ t.responseTimeout = none ∧
    t.slot e.slot = { s.slot e.slot with
      state := .slumber, drain := none, switchOff := none, timedOut := none, step := none, limit := none, sen := true,
      failures := failuresAfter e.command o (s.slot e.slot).failures } ∧
    t.committed = s.committed - ((s.slot e.slot).grantedAwake - (s.slot e.slot).grantedStandby) ∧
    t.evictionSet = s.evictionSet.filter (· != e.slot) ∧
    (s.queue e.slot ≠ [] ∨ (s.slot e.slot).pin = true ∧ x = false → t.listed e.slot = true) ∧ OnlySlot e.slot s t ∧
    Unchanged slotEventFields s t := by
  have hbase := ended_frame s e o
  have hslot := ended_slot s e o
  obtain ⟨hself, hcom, hset, hlist, honly, hframe⟩ := enterSlumber_effect (s := s.ended e o) (n := e.slot) (by rw [hslot]; exact hs) x
  have hclt : ((s.ended e o).enterSlumber e.slot x).claims = [] :=
    (hframe .claims (by decide) : (s.ended e o).claims = _).symm.trans ((hbase .claims (by decide) : s.claims = _).symm.trans hcl)
  have hfin := finish_sound s _ (Or.inl hclt)
  refine ⟨(hfin .exchange (by decide)).symm.trans (hframe .exchange (by decide)).symm,
    (hfin .responseTimeout (by decide)).symm.trans (hframe .responseTimeout (by decide)).symm,
    (hfin.slot e.slot).trans (hself.trans (by rw [hslot]; rfl)), ?_, ?_, fun h => (hfin.listed e.slot).trans (hlist ?_),
    (ended_onlySlot s e o).trans (honly.trans (hfin.onlySlot e.slot (by decide) (by decide) (by decide) (by decide))),
    ((hbase.mono (by decide)).trans (hframe.mono (by decide))).trans (hfin.mono (by decide))⟩
  · rw [← (hfin .committed (by decide) : State.committed _ = State.committed _), hcom, hslot,
      ← (hbase .committed (by decide) : s.committed = _)]
  · rw [← (hfin .evictionSet (by decide) : State.evictionSet _ = State.evictionSet _), hset,
      ← (hbase .evictionSet (by decide) : s.evictionSet = _)]
  · rw [hbase.queue e.slot, hslot]; exact h

/-- Settles O52, second half: the SLUMBER exchange of a drain towards SLUMBER fails. -/
theorem slumberFailedEntersOff (hcl : s.claims = []) (x : Bool) (cs : Cause) :
    let t := s.finish (((s.ended e o).enterOff e.slot x).reportFault e.slot .slumberFailed none .slumberFailed cs)
    t.exchange = none ∧ t.responseTimeout = none ∧
    OffEntered e.slot (failuresAfter e.command o (s.slot e.slot).failures) s t ∧ FaultLatched .slumberFailed e.slot none s t := by
  have hbase := ended_frame s e o
  have hslot := ended_slot s e o
  have hentered := enterOff_entered (s.ended e o) e.slot x
  have hfail : ((s.ended e o).slot e.slot).failures = failuresAfter e.command o (s.slot e.slot).failures := by rw [hslot]
  rw [hfail] at hentered
  have hoff := enterOff_frame (s.ended e o) e.slot x
  have hrep := reportFault_frame ((s.ended e o).enterOff e.slot x) e.slot .slumberFailed none .slumberFailed cs
  have hlatched := reportFault_latched ((s.ended e o).enterOff e.slot x) e.slot .slumberFailed none .slumberFailed cs
  have hclb : (s.ended e o).claimsSound := Or.inl ((hbase .claims (by decide) : s.claims = _).symm.trans hcl)
  have hclt := hrep.claimsSound (enterOff_claimsSound hclb x)
  have hfin := finish_sound s _ hclt
  have hat := hentered.after (hbase.mono (by decide)) (ended_onlySlot s e o) (by rw [hslot]; rfl) (by rw [hslot]; rfl)
    (by rw [← (hbase .control (by decide) : s.control = _)])
  refine ⟨(hfin .exchange (by decide)).symm.trans ((hrep .exchange (by decide)).symm.trans (hoff .exchange (by decide)).symm),
    (hfin .responseTimeout (by decide)).symm.trans
      ((hrep .responseTimeout (by decide)).symm.trans (hoff .responseTimeout (by decide)).symm),
    (hat.andThen (hrep.mono (by decide))).finish hclt, ?_⟩
  have efault : ((s.ended e o).enterOff e.slot x).fault = s.fault :=
    (enterOff_fault _ _ x).trans (hbase .fault (by decide) : s.fault = _).symm
  have etime : ((s.ended e o).enterOff e.slot x).timeBase = s.timeBase :=
    (hoff .timeBase (by decide) : (s.ended e o).timeBase = _).symm.trans (hbase .timeBase (by decide) : s.timeBase = _).symm
  unfold FaultLatched at hlatched ⊢
  rw [efault, etime] at hlatched
  rw [finish_fault hclt]
  exact hlatched

/-- Settles O52: the outcome by the marks of the slot after WAKE, and by the drain and the reply after SLUMBER. -/
theorem wakeAndSlumberDecideSlot : Obligations.WakeAndSlumberDecideSlot := by
  intro c e o s hends hb hcl hqs
  refine ⟨wakeDecidesSlot hends hb hcl hqs, fun hc hs hover => ?_⟩
  have hcount : failuresAfter e.command o (s.slot e.slot).failures = countAfter o (s.slot e.slot).failures :=
    failuresAfter_eq (by rw [hc]; exact ChainCommand.noConfusion) _
  have hdrain : ∀ d, (s.slot e.slot).drain = some d → ((s.ended e o).slot e.slot).drain = some d := fun d hd => by
    rw [ended_slot]; exact hd
  have hend : s.attemptEnd e o = (s.ended e o).slumberEnd e.slot o := by
    rw [attemptEnd_over (Or.inr hb) (Or.inr (Or.inr hover)), exchangeEnd_eq, hc]
    rfl
  have hrun := attemptEnds_run hends
  rw [hend] at hrun
  refine ⟨fun cause d hd ho => ?_, fun cause hd ho => ?_, fun cause hd => ?_⟩
  · subst ho
    rw [slumberEnd_done (hdrain _ hd)] at hrun
    obtain ⟨hx, hto, hslot, hcom, hset, hlist, honly, hframe⟩ :=
      slumberDoneEntersSlumber (e := e) (o := .done d) hs hcl (restExempt cause)
    rw [hcount] at hslot
    refine ⟨_, hrun, hx, hto, hslot, hcom, hset, fun hq => hlist (Or.inl hq), fun hp h1 h2 => hlist (Or.inr ⟨hp, ?_⟩), honly, hframe⟩
    cases cause <;> first | rfl | exact absurd rfl h1 | exact absurd rfl h2
  · rw [slumberEnd_failed (hdrain _ hd) ho] at hrun
    obtain ⟨hx, hto, hoff, hfault⟩ := slumberFailedEntersOff (e := e) (o := o) hcl (restExempt cause) (.status (outcomeStatus o))
    rw [hcount] at hoff
    exact ⟨_, hrun, hx, hto, hoff, hfault⟩
  · rw [slumberEnd_off (hdrain _ hd)] at hrun
    obtain ⟨hx, hto, hoff⟩ := offEntered_ended (e := e) (o := o) (restExempt cause) hcl
    rw [hcount] at hoff
    have hbase := ended_frame s e o
    have hclb : (s.ended e o).claimsSound := Or.inl ((hbase .claims (by decide) : s.claims = _).symm.trans hcl)
    exact ⟨_, hrun, hx, hto, hoff, (finish_fault (enterOff_claimsSound hclb _)).trans
      ((enterOff_fault _ _ _).trans (hbase .fault (by decide) : s.fault = _).symm)⟩

end Sys2Proof.Machine
end

section
/-! The end of an IDENTIFY exchange: the entry to AWAKE with the sensing of the line, faults, and the poll interval. -/

set_option Elab.async false

namespace Sys2Proof.Machine

variable {s t u : State} {n : Slot} {e : Exchange} {o : AttemptOutcome} {c : Instr}

/-! ## An attention action on an AWAKE slot -/

/-- What an attention record keeps while its action runs: the sensing of the line, with the last level and mode (R118, R131). -/
def AttentionRecord.SensesAs (a b : AttentionRecord) : Prop :=
  b.sensing = a.sensing ∧ b.lastLevel = a.lastLevel ∧ b.senseRead = a.senseRead

theorem AttentionRecord.SensesAs.refl (a : AttentionRecord) : a.SensesAs a := ⟨rfl, rfl, rfl⟩

theorem afterNotice_sensesAs (a : AttentionRecord) (p : Profile) (h : Bool) : a.SensesAs (a.afterNotice p h) := by
  unfold AttentionRecord.afterNotice
  split
  · split <;> exact ⟨rfl, rfl, rfl⟩
  · exact ⟨rfl, rfl, rfl⟩

/-- What an attention action can do on an AWAKE slot: its own record, a fetch that joins the queue and stops the countdown, or a
claim where no record is free (R79, R121 to R125). -/
def ActedAwake (n : Slot) (s t : State) : Prop :=
  (∃ step, t.slot n = { s.slot n with step := step } ∧ (step = (s.slot n).step ∨ step = none)) ∧
  (s.att n).SensesAs (t.att n) ∧ OnlySlot n s t ∧ (s.claimsSound → t.claimsSound) ∧
  Unchanged [.attention, .notices, .lostCount, .firstLoss, .slots, .queues, .claims] s t

theorem ActedAwake.refl (n : Slot) (s : State) : ActedAwake n s s :=
  ⟨⟨_, rfl, Or.inl rfl⟩, AttentionRecord.SensesAs.refl _, OnlySlot.refl n s, id, Unchanged.refl _ s⟩

theorem ActedAwake.trans (h : ActedAwake n s t) (g : ActedAwake n t u) : ActedAwake n s u := by
  obtain ⟨⟨a, ha, ha'⟩, ⟨h1, h2, h3⟩, ho, hc, hf⟩ := h
  obtain ⟨⟨b, hb, hb'⟩, ⟨g1, g2, g3⟩, go, gc, gf⟩ := g
  refine ⟨⟨b, by rw [hb, ha], ?_⟩, ⟨g1.trans h1, g2.trans h2, g3.trans h3⟩, ho.trans go, fun h => gc (hc h), hf.trans gf⟩
  rcases hb' with hb' | hb'
  · rw [hb', ha]; exact ha'
  · exact Or.inr hb'

/-- A change of the attention record that keeps the sensing. -/
theorem setAtt_acted (s : State) (n : Slot) {a : AttentionRecord} (h : (s.att n).SensesAs a) : ActedAwake n s (s.setAtt n a) := by
  have f := setAtt_frame s n a
  refine ⟨⟨(s.slot n).step, f.slot n, Or.inl rfl⟩, ?_, setAtt_onlySlot s n a, fun hc => f.claimsSound hc, f.mono (by decide)⟩
  rw [setAtt_att_self]; exact h

theorem endAction_acted (s : State) (n : Slot) (st : Status) (d : List Byte) (h : Bool) : ActedAwake n s (s.endAction n st d h) := by
  have f := endAction_frame s n st d h
  refine ⟨⟨(s.slot n).step, f.slot n, Or.inl rfl⟩, ?_, endAction_onlySlot s n st d h, fun hc => f.claimsSound hc, f.mono (by decide)⟩
  rw [endAction_att]; exact afterNotice_sensesAs _ _ _

theorem joinQueue_awake (hs : (s.slot n).state = .awake) (r : Record) :
    s.joinQueue n r = (s.setQueue n (s.queue n ++ [r])).stopStep n := by
  have h : ((s.setQueue n (s.queue n ++ [r])).slot n).state = .awake := by rw [(setQueue_frame s n _).slot n]; exact hs
  simp only [State.joinQueue, h]

theorem stopStep_slot (s : State) (n : Slot) : (s.stopStep n).slot n = { s.slot n with step := none } := setSlot_slot_self s n _

/-- The fetch joins the queue of an AWAKE slot (R81, R125). Records are live that were not before: the claims must be none. -/
theorem createFetch_acted (hs : (s.slot n).state = .awake) (hc : s.claims = []) : ActedAwake n s (s.createFetch n) := by
  have h1 := setAtt_acted s n (a := { s.att n with phase := .fetching }) ⟨rfl, rfl, rfl⟩
  have f1 := setAtt_frame s n { s.att n with phase := .fetching }
  have hdef : s.createFetch n = (s.setAtt n { s.att n with phase := .fetching }).joinQueue n
    ((s.setAtt n { s.att n with phase := .fetching }).fetchRecord n) := rfl
  rw [hdef, joinQueue_awake (by rw [f1.slot n]; exact hs)]
  refine h1.trans ?_
  generalize hv : s.setAtt n { s.att n with phase := .fetching } = v
  have hcv : v.claims = [] := by rw [← hv]; exact hc
  have fq := setQueue_frame v n (v.queue n ++ [v.fetchRecord n])
  have fs := setSlot_frame (v.setQueue n (v.queue n ++ [v.fetchRecord n])) n
    { (v.setQueue n (v.queue n ++ [v.fetchRecord n])).slot n with step := none }
  have ff : Unchanged [.attention, .notices, .lostCount, .firstLoss, .slots, .queues, .claims] v
      ((v.setQueue n (v.queue n ++ [v.fetchRecord n])).stopStep n) := fq.andThen fs (by decide) (by decide)
  refine ⟨⟨none, by rw [stopStep_slot, fq.slot n], Or.inr rfl⟩, ?_, (setQueue_onlySlot v n _).trans (setSlot_onlySlot _ n _),
    fun _ => Or.inl hcv, ff⟩
  have ha : ((v.setQueue n (v.queue n ++ [v.fetchRecord n])).stopStep n).att n = v.att n := (fs.att n).trans (fq.att n)
  rw [ha]
  exact AttentionRecord.SensesAs.refl _

/-- With no record free the action waits for one (R79, R125). -/
theorem waitRecord_acted (s : State) (n : Slot) (hfull : Config.poolSize ≤ s.liveTotal) :
    ActedAwake n s { s.setAtt n { s.att n with phase := .waitingRecord } with claims := s.claims ++ [n] } := by
  have f : Unchanged [.claims] (s.setAtt n { s.att n with phase := .waitingRecord })
      { s.setAtt n { s.att n with phase := .waitingRecord } with claims := s.claims ++ [n] } := by
    intro f hf; cases f <;> first | rfl | exact absurd (by decide) hf
  refine (setAtt_acted s n (a := { s.att n with phase := .waitingRecord }) ⟨rfl, rfl, rfl⟩).trans
    ⟨⟨_, f.slot n, Or.inl rfl⟩, ?_, f.onlySlot n (by decide) (by decide) (by decide) (by decide), fun _ => Or.inr ?_,
      f.mono (by decide)⟩
  · rw [f.att n]; exact AttentionRecord.SensesAs.refl _
  · rw [f.liveTotal, (setAtt_frame s n _).liveTotal]; exact hfull

theorem startAction_acted (hs : (s.slot n).state = .awake) (hc : s.claims = []) : ActedAwake n s (s.startAction n) := by
  unfold State.startAction
  dsimp only
  split
  · exact ActedAwake.refl n s
  · exact endAction_acted s n _ _ _
  · rw [hs]; exact endAction_acted s n _ _ _
  · by_cases hlive : s.liveTotal < Config.poolSize
    · rw [if_pos hlive]; exact createFetch_acted hs hc
    · rw [if_neg hlive]; exact waitRecord_acted s n (not_lt.mp hlive)

theorem activation_acted (hs : (s.slot n).state = .awake) (hc : s.claims = []) : ActedAwake n s (s.activation n) := by
  unfold State.activation
  split
  · split
    · exact ActedAwake.refl n s
    · refine (setAtt_acted s n (a := { s.att n with pending := true }) ⟨rfl, rfl, rfl⟩).trans (startAction_acted ?_ hc)
      rw [(setAtt_frame s n _).slot n]; exact hs
  · exact ActedAwake.refl n s
  · exact setAtt_acted s n ⟨rfl, rfl, rfl⟩
  · exact setAtt_acted s n ⟨rfl, rfl, rfl⟩
  · exact setAtt_acted s n ⟨rfl, rfl, rfl⟩

/-! ## Entering AWAKE -/

/-- The attention record as the sensing of the line begins (R118). -/
def State.sensed (s : State) (n : Slot) : AttentionRecord :=
  { s.att n with sensing := true, lastLevel := some s.atnLines[n], senseRead := some (s.profile n).sense }

theorem beginSensing_acted (hs : (s.slot n).state = .awake) (hc : s.claims = []) :
    ActedAwake n (s.setAtt n (s.sensed n)) (s.beginSensing n) := by
  have hdef : s.beginSensing n = if ((s.setAtt n (s.sensed n)).profile n).sense = .level ∧ s.atnLines[n] = true ∧
      s.restarting = false then (s.setAtt n (s.sensed n)).activation n else s.setAtt n (s.sensed n) := rfl
  rw [hdef]
  split
  · exact activation_acted (by rw [(setAtt_frame s n _).slot n]; exact hs) hc
  · exact ActedAwake.refl n _

/-- The entry to AWAKE before the idle hold (R10, R118, R124). -/
def State.awoken (s : State) (n : Slot) (identity : List Byte) : State :=
  if (s.slot n).state = .powering then (s.changeState n .awake identity).beginSensing n
  else if ((s.changeState n .awake identity).att n).phase = .waitingAwake ∧
      (s.changeState n .awake identity).restarting = false then (s.changeState n .awake identity).endAction n .ok [] true
  else s.changeState n .awake identity

theorem enterAwake_eq (s : State) (n : Slot) (d : List Byte) : s.enterAwake n d = (s.awoken n d).startIdleHold n := rfl

/-- The slot has entered AWAKE: the most recently used slot, its marks and countdowns clear, its line sensed after POWERING. -/
def Awoken (n : Slot) (s t : State) : Prop :=
  t.slot n = (s.slot n).changed .awake ∧ t.useOrder = s.useOrder.filter (· != n) ++ [n] ∧
  ((s.slot n).state = .powering → (s.sensed n).SensesAs (t.att n)) ∧ OnlySlot n s t ∧
  Unchanged [.slots, .useOrder, .committed, .evictionSet, .evaluationDue, .control, .notices, .lostCount, .firstLoss, .attention,
    .queues, .claims] s t

/-- An attention action of the slot that has entered AWAKE stops no countdown that runs. -/
theorem Awoken.acted (h : Awoken n s t) (g : ActedAwake n t u) : Awoken n s u := by
  obtain ⟨hslot, horder, hsense, honly, hframe⟩ := h
  obtain ⟨⟨step, gslot, gstep⟩, ⟨g1, g2, g3⟩, gonly, -, gframe⟩ := g
  have hnone : step = none := by
    rcases gstep with h | h
    · rw [h, hslot]; rfl
    · exact h
  refine ⟨?_, (gframe .useOrder (by decide) : t.useOrder = _).symm.trans horder, fun hp => ?_, honly.trans gonly,
    hframe.trans (gframe.mono (by decide))⟩
  · rw [gslot, hslot, hnone]; rfl
  · obtain ⟨h1, h2, h3⟩ := hsense hp
    exact ⟨g1.trans h1, g2.trans h2, g3.trans h3⟩

theorem awoken_effect (hcu : (s.slot n).state.comingUp = true) (hc : s.claims = []) (d : List Byte) :
    Awoken n s (s.awoken n d) ∧ (s.awoken n d).claimsSound := by
  have fc := changeState_frame s n .awake d
  have hself := changeState_slot_self s n .awake d
  have honly := changeState_onlySlot s n .awake d
  have horder : (s.changeState n .awake d).useOrder = s.useOrder.filter (· != n) ++ [n] := by
    rw [changeState_useOrder, useOrderAfter, if_neg (comingUp_ne hcu).2]
  have hclc : (s.changeState n .awake d).claims = [] := (fc .claims (by decide) : s.claims = _).symm.trans hc
  by_cases hp : (s.slot n).state = .powering
  · have fa := setAtt_frame (s.changeState n .awake d) n ((s.changeState n .awake d).sensed n)
    have hact : ActedAwake n ((s.changeState n .awake d).setAtt n ((s.changeState n .awake d).sensed n)) (s.awoken n d) := by
      rw [State.awoken, if_pos hp]
      exact beginSensing_acted (by rw [hself]; rfl) hclc
    have hbegun : Awoken n s ((s.changeState n .awake d).setAtt n ((s.changeState n .awake d).sensed n)) := by
      refine ⟨(fa.slot n).trans hself, (fa .useOrder (by decide) : State.useOrder _ = _).symm.trans horder, fun _ => ?_,
        honly.trans (setAtt_onlySlot _ n _), fc.andThen fa (by decide) (by decide)⟩
      rw [setAtt_att_self, State.sensed, State.sensed, (fc .atnLines (by decide) : s.atnLines = _), fc.profile n]
      exact ⟨rfl, rfl, rfl⟩
    obtain ⟨-, -, -, hclaims, -⟩ := id hact
    exact ⟨hbegun.acted hact, hclaims (Or.inl hclc)⟩
  · have hact : ActedAwake n (s.changeState n .awake d) (s.awoken n d) := by
      rw [State.awoken, if_neg hp]
      split
      · exact endAction_acted _ n _ _ _
      · exact ActedAwake.refl n _
    obtain ⟨-, -, -, hclaims, -⟩ := id hact
    exact ⟨Awoken.acted ⟨hself, horder, fun h => absurd h hp, honly, fc.mono (by decide)⟩ hact, hclaims (Or.inl hclc)⟩

/-- A slot that comes up enters AWAKE: what `Awoken` says, and the idle hold where its conditions hold (R10, R11). -/
theorem enterAwake_effect (hcu : (s.slot n).state.comingUp = true) (hc : s.claims = []) (hf : s.inFlight n = false)
    (d : List Byte) : (s.enterAwake n d).slot n = { (s.slot n).changed .awake with
      step := if (s.enterAwake n d).queue n = [] ∧ (s.slot n).pin = false ∧ (s.profile n).idleHold ≠ 0 ∧ s.restarting = false
        then some { purpose := .idleHold, ms := (s.profile n).idleHold } else none } ∧
    (s.enterAwake n d).useOrder = s.useOrder.filter (· != n) ++ [n] ∧
    ((s.slot n).state = .powering → (s.sensed n).SensesAs ((s.enterAwake n d).att n)) ∧ OnlySlot n s (s.enterAwake n d) ∧
    (s.enterAwake n d).claimsSound ∧
    Unchanged [.slots, .useOrder, .committed, .evictionSet, .evaluationDue, .control, .notices, .lostCount, .firstLoss, .attention,
      .queues, .claims] s (s.enterAwake n d) := by
  obtain ⟨⟨hslot, horder, hsense, honly, hframe⟩, hclaims⟩ := awoken_effect hcu hc d
  have fi := startIdleHold_frame (s.awoken n d) n
  rw [enterAwake_eq]
  refine ⟨?_, (fi .useOrder (by decide) : State.useOrder _ = _).symm.trans horder, fun hp => ?_,
    honly.trans (startIdleHold_onlySlot _ n), fi.claimsSound hclaims, hframe.andThen fi (by decide) (by decide)⟩
  · have hdue : (s.awoken n d).idleHoldDue n (s.profile n).idleHold = true ↔ (s.awoken n d).queue n = [] ∧
        (s.slot n).pin = false ∧ (s.profile n).idleHold ≠ 0 ∧ s.restarting = false := by
      rw [idleHoldDue_iff, hslot, hframe.inFlight n, hf, hframe.restarting]
      simp [SlotRecord.changed, and_left_comm]
    rw [startIdleHold_slot, fi.queue n, hframe.profile n, hslot]
    simp only [hdue]
    rfl
  · rw [fi.att n]; exact hsense hp

/-! ## The end of an IDENTIFY exchange -/

theorem identifyEnd_off {k : SwitchOffKind} (h : (s.slot n).switchOff = some k) :
    s.identifyEnd n o = s.enterOff n (k == .offcmd) := by
  simp only [State.identifyEnd, h]

theorem identityMatches_iff (expected : Nat) (y1 y0 : Byte) (d : List Byte) :
    identityMatches expected (y1 :: y0 :: d) = true ↔ expected = 0 ∨ expected = y1.toNat * 256 + y0.toNat := by
  simp only [identityMatches, Bool.or_eq_true, beq_iff_eq, readWord16]
  exact or_congr Iff.rfl eq_comm

theorem identifyEnd_match {d : List Byte} (h : (s.slot n).switchOff = none)
    (hm : identityMatches (s.profile n).power.moduleType d = true) : s.identifyEnd n (.done d) = s.enterAwake n d := by
  simp only [State.identifyEnd, h, hm, if_true]

theorem identifyEnd_mismatch {d : List Byte} (h : (s.slot n).switchOff = none)
    (hm : identityMatches (s.profile n).power.moduleType d = false) : s.identifyEnd n (.done d) =
      s.enterFaulted n (match (s.slot n).timedOut with
        | some k => timeoutFault k
        | none => .typeMismatch) := by
  simp only [State.identifyEnd, h, hm, Bool.false_eq_true, if_false] <;> rfl

theorem identifyEnd_timedOut {k : TimeoutKind} (h : (s.slot n).switchOff = none) (ho : ∀ d, o ≠ .done d)
    (ht : (s.slot n).timedOut = some k) : s.identifyEnd n o = s.enterFaulted n (timeoutFault k) := by
  cases o with
  | done d => exact absurd rfl (ho d)
  | _ => simp only [State.identifyEnd, h, ht]

theorem identifyEnd_poll (h : (s.slot n).switchOff = none) (ho : ∀ d, o ≠ .done d) (ht : (s.slot n).timedOut = none) :
    s.identifyEnd n o = s.loadPoll n .pollInterval s.chain.pollInterval := by
  cases o with
  | done d => exact absurd rfl (ho d)
  | _ => simp only [State.identifyEnd, h, ht]

/-- The entry to AWAKE as the exchange ends, at the end of the event. -/
theorem awakeEntered_ended (hc : e.command = .identify) (hcu : (s.slot e.slot).state.comingUp = true) (hcl : s.claims = [])
    (d : List Byte) :
    let t := s.finish ((s.ended e o).enterAwake e.slot d)
    t.exchange = none ∧ t.responseTimeout = none ∧
    t.slot e.slot = { (s.slot e.slot).changed .awake with
      step := if t.queue e.slot = [] ∧ (s.slot e.slot).pin = false ∧ (s.profile e.slot).idleHold ≠ 0 ∧ s.restarting = false
        then some { purpose := .idleHold, ms := (s.profile e.slot).idleHold } else none } ∧
    t.useOrder = s.useOrder.filter (· != e.slot) ++ [e.slot] ∧
    ((s.slot e.slot).state = .powering → (s.sensed e.slot).SensesAs (t.att e.slot)) ∧ OnlySlot e.slot s t ∧
    Unchanged slotEventFields s t := by
  have hbase := ended_frame s e o
  have hsame : (s.ended e o).slot e.slot = s.slot e.slot := by rw [ended_slot, hc]; rfl
  obtain ⟨hslot, horder, hsense, honly, hclaims, hframe⟩ := enterAwake_effect (s := s.ended e o) (n := e.slot)
    (by rw [hsame]; exact hcu) ((hbase .claims (by decide) : s.claims = _).symm.trans hcl) (ended_inFlight s e o e.slot) d
  have hfin := finish_sound s _ hclaims
  have hsensed : (s.ended e o).sensed e.slot = s.sensed e.slot := rfl
  refine ⟨(hfin .exchange (by decide)).symm.trans (hframe .exchange (by decide)).symm,
    (hfin .responseTimeout (by decide)).symm.trans (hframe .responseTimeout (by decide)).symm, ?_, ?_, fun hp => ?_,
    (ended_onlySlot s e o).trans (honly.trans (hfin.onlySlot e.slot (by decide) (by decide) (by decide) (by decide))),
    ((hbase.mono (by decide)).trans (hframe.mono (by decide))).trans (hfin.mono (by decide))⟩
  · rw [hfin.slot e.slot, hfin.queue e.slot, hslot, hsame, hbase.profile e.slot, hbase.restarting]
  · rw [← (hfin .useOrder (by decide) : State.useOrder _ = State.useOrder _), horder,
      ← (hbase .useOrder (by decide) : s.useOrder = _)]
  · rw [hfin.att e.slot, ← hsensed]
    exact hsense (by rw [hsame]; exact hp)

/-- Settles O51: the end by the marks of the slot, the outcome and the type in the reply. -/
theorem identifyDecidesSlot : Obligations.IdentifyDecidesSlot := by
  intro c e o s hends hc hcu hcl hqs
  have hcount : failuresAfter e.command o (s.slot e.slot).failures = (s.slot e.slot).failures := by rw [hc]; rfl
  have hsame : (s.ended e o).slot e.slot = s.slot e.slot := by rw [ended_slot, hc]; rfl
  have hprofile := (ended_frame s e o).profile e.slot
  have hend : s.attemptEnd e o = (s.ended e o).identifyEnd e.slot o := by
    rw [attemptEnd_over (Or.inl hc) (Or.inr (Or.inl hc)), exchangeEnd_eq, hc]
    rfl
  have hrun := attemptEnds_run hends
  rw [hend] at hrun
  have hfault : ∀ kind : FaultKind, kind ≠ .faultThreshold → (s.ended e o).identifyEnd e.slot o =
      (s.ended e o).enterFaulted e.slot kind → ∃ t, exec c s = .next t ∧ t.exchange = none ∧ t.responseTimeout = none ∧
        FaultEntered e.slot kind none (s.slot e.slot).failures s t := by
    intro kind hk heq
    rw [heq] at hrun
    obtain ⟨hx, hto, hfe⟩ := faultEntered_ended (e := e) (o := o) kind hqs hcl
    rw [if_neg hk, hcount] at hfe
    exact ⟨_, hrun, hx, hto, hfe⟩
  refine ⟨fun kind hk => ?_, fun y1 y0 rv hoff ho hm => ?_, fun y1 y0 rv hoff ho h0 hm => ?_, fun hoff ho => ⟨fun k hk => ?_, fun ht hr hp => ?_⟩⟩
  · rw [identifyEnd_off (by rw [hsame]; exact hk)] at hrun
    obtain ⟨hx, hto, hentered⟩ := offEntered_ended (e := e) (o := o) (kind == .offcmd) hcl
    rw [hcount] at hentered
    refine ⟨_, hrun, hx, hto, hentered, fun hpin hshed => ?_⟩
    subst hshed
    have hclb : (s.ended e o).claimsSound :=
      Or.inl (((ended_frame s e o) .claims (by decide) : s.claims = _).symm.trans hcl)
    rw [(finish_sound s _ (enterOff_claimsSound hclb _)).listed e.slot]
    exact enterOff_listed (by rw [hsame]; exact hpin)
  · subst ho
    rw [identifyEnd_match (by rw [hsame]; exact hoff) (by rw [hprofile]; exact (identityMatches_iff _ y1 y0 [rv]).mpr hm)] at hrun
    obtain ⟨hx, hto, hslot, horder, hsense, honly, hframe⟩ :=
      awakeEntered_ended (e := e) (o := .done [y1, y0, rv]) hc hcu hcl [y1, y0, rv]
    exact ⟨_, hrun, hx, hto, hslot.trans (by rw [SlotRecord.changed, hoff]; rfl), horder, hsense, honly, hframe⟩
  · subst ho
    have hmis : identityMatches ((s.ended e (.done [y1, y0, rv])).profile e.slot).power.moduleType [y1, y0, rv] = false := by
      rw [hprofile]
      exact Bool.eq_false_iff.mpr (fun h => ((identityMatches_iff _ y1 y0 [rv]).mp h).elim h0 hm)
    have heq := identifyEnd_mismatch (by rw [hsame]; exact hoff) hmis
    rw [hsame] at heq
    cases ht : (s.slot e.slot).timedOut with
    | none => rw [ht] at heq; exact hfault _ (by decide) heq
    | some k => rw [ht] at heq; cases k <;> exact hfault _ (by decide) heq
  · have heq := identifyEnd_timedOut (by rw [hsame]; exact hoff) ho (by rw [hsame]; exact hk)
    cases k <;> exact hfault _ (by decide) heq
  · rw [hrun, identifyEnd_poll (by rw [hsame]; exact hoff) ho (by rw [hsame]; exact ht),
      ← ((ended_frame s e o) .chain (by decide) : s.chain = _),
      finish_loadPoll hends.exchange hcl hcu hr .pollInterval hp, hcount]

end Sys2Proof.Machine
end

section
/-! The end of a data exchange. -/

set_option Elab.async false

namespace Sys2Proof.Machine

variable {s t u : State} {n : Slot} {e : Exchange} {o : AttemptOutcome} {c : Instr} {r : Record} {rest : List Record}

/-! ## A slot that moves towards rest -/

theorem towardsRest_cases (s : State) (n : Slot) : s.towardsRest n = s ∨ s.towardsRest n = s.askControl n .slumber ∨
    ∃ x, s.towardsRest n = s.enterOff n x := by
  unfold State.towardsRest
  split
  · split
    · exact Or.inr (Or.inr ⟨_, rfl⟩)
    · exact Or.inr (Or.inl rfl)
  · exact Or.inl rfl

theorem enterOff_slot (s : State) (n : Slot) (x : Bool) : (s.enterOff n x).slot n = (s.slot n).inOff (s.slot n).failures := by
  obtain ⟨hslot, -⟩ := enterOff_entered s n x
  exact hslot

theorem towardsRest_kept (s : State) (n : Slot) : ((s.towardsRest n).slot n).pin = (s.slot n).pin ∧
    ((s.towardsRest n).slot n).failures = (s.slot n).failures := by
  rcases towardsRest_cases s n with h | h | ⟨x, h⟩ <;> rw [h]
  · exact ⟨rfl, rfl⟩
  · rw [(askControl_frame s n _).slot n]; exact ⟨rfl, rfl⟩
  · rw [enterOff_slot]; exact ⟨rfl, rfl⟩

theorem towardsRest_claimsSound (h : s.claimsSound) (n : Slot) : (s.towardsRest n).claimsSound := by
  rcases towardsRest_cases s n with hc | hc | ⟨x, hc⟩ <;> rw [hc]
  · exact h
  · exact (askControl_frame s n _).claimsSound h
  · exact enterOff_claimsSound h x

theorem towardsRest_queue (s : State) (n : Slot) : (s.towardsRest n).queue n = s.queue n := by
  rcases towardsRest_cases s n with h | h | ⟨x, h⟩ <;> rw [h]
  · exact (askControl_frame s n _).queue n
  · simp only [State.queue, enterOff_queues]

/-! ## The record that completes -/

/-- The state in which the head record has completed and left its queue, before the slot moves on (R18, R87). -/
def State.dataDone (s : State) (n : Slot) (r : Record) (rest : List Record) (o : AttemptOutcome) : State :=
  ((s.setQueue n rest).handOff r (outcomeStatus o) (readData r o) true).used n

theorem dataDone_frame (s : State) (n : Slot) (r : Record) (rest : List Record) (o : AttemptOutcome) :
    Unchanged [.queues, .responses, .attention, .notices, .lostCount, .firstLoss, .useOrder] s (s.dataDone n r rest o) :=
  ((setQueue_frame s n rest).andThen (handOff_frame _ r _ _ true) (by decide) (by decide) :
    Unchanged [.queues, .responses, .attention, .notices, .lostCount, .firstLoss] s _).andThen (used_frame _ n) (by decide)
    (by decide)

theorem dataDone_onlySlot (hr : r.slot = n) : OnlySlot n s (s.dataDone n r rest o) :=
  ((setQueue_onlySlot s n rest).trans (handOff_onlySlot _ n r _ _ true hr)).trans
    ((used_frame _ n).onlySlot n (by decide) (by decide) (by decide) (by decide))

theorem dataDone_queue (s : State) (n : Slot) (r : Record) (rest : List Record) (o : AttemptOutcome) :
    (s.dataDone n r rest o).queue n = rest := by
  rw [State.dataDone, (used_frame _ n).queue n, (handOff_frame _ r _ _ true).queue n]
  simp

theorem dataDone_responses (s : State) (n : Slot) (r : Record) (rest : List Record) (o : AttemptOutcome) :
    (s.dataDone n r rest o).responses = s.responses ++ handedOn r (outcomeStatus o) (readData r o) := by
  rw [State.dataDone, ← ((used_frame _ n) .responses (by decide) : State.responses _ = State.responses _), handOff_responses]
  rfl

theorem dataDone_useOrder (h : n ∈ s.useOrder) : (s.dataDone n r rest o).useOrder = s.useOrder.filter (· != n) ++ [n] := by
  have f : Unchanged [.queues, .responses, .attention, .notices, .lostCount, .firstLoss] s
      ((s.setQueue n rest).handOff r (outcomeStatus o) (readData r o) true) :=
    (setQueue_frame s n rest).andThen (handOff_frame _ r _ _ true) (by decide) (by decide)
  have hu : s.useOrder = ((s.setQueue n rest).handOff r (outcomeStatus o) (readData r o) true).useOrder :=
    f .useOrder (by decide)
  rw [State.dataDone, State.used, if_pos (hu ▸ h), ← hu]

theorem dataEnd_done (h : s.queue n = r :: rest) : s.dataEnd n o =
    if (s.slot n).state = .draining then (s.dataDone n r rest o).towardsRest n else (s.dataDone n r rest o).startIdleHold n := by
  rw [dataEnd_cons o h, ← (dataDone_frame s n r rest o).slot n]
  rfl

/-- The data exchange of `e` ends: its record completes from the counted state. -/
theorem attemptEnd_data (hb : s.belowThreshold e.slot o) (hover : s.attemptsOver e o)
    (hc : e.command = if r.op = .read then .read else .write) (hq : s.queue e.slot = r :: rest) :
    s.attemptEnd e o = if (s.slot e.slot).state = .draining then ((s.ended e o).dataDone e.slot r rest o).towardsRest e.slot
      else ((s.ended e o).dataDone e.slot r rest o).startIdleHold e.slot := by
  have hbase := ended_frame s e o
  have hend : (s.counted e o).exchangeEnd e o = (s.ended e o).dataEnd e.slot o := by
    by_cases hop : r.op = .read
    · rw [exchangeEnd_eq, hc, if_pos hop]; rfl
    · rw [exchangeEnd_eq, hc, if_neg hop]; rfl
  have hstate : ((s.ended e o).slot e.slot).state = (s.slot e.slot).state := by rw [ended_slot]
  rw [attemptEnd_over (Or.inr hb) (Or.inr (Or.inr hover)), hend, dataEnd_done ((hbase.queue e.slot).trans hq), hstate]

/-- The data a final outcome brings: what a READ answered DONE has read. -/
theorem readData_eq (r : Record) (o : AttemptOutcome) : readData r o = match o, r.op with
    | .done d, .read => d
    | _, _ => [] := by
  cases o with
  | done d => cases hop : r.op <;> simp [readData, hop]
  | _ => rfl

/-- What an AWAKE slot whose exchange has ended shows of the record's completion (R87, R89, R126). -/
def DataHanded (n : Slot) (r : Record) (o : AttemptOutcome) (s t : State) : Prop :=
  match r.owner, r.op, r.tag with
  | .requester _, .read, _ => t.notices = s.notices ∧ t.att n = s.att n
  | .requester _, .write, _ => t.notices = s.notices ∧ t.att n = s.att n
  | .requester q, .writePosted, some tag => t.att n = s.att n ∧ (statusOf o = .ok → t.notices = s.notices) ∧
      (statusOf o ≠ .ok → NoticeRaised { kind := .writeLost, stamp := s.timeBase, slot := some n, requesterTag := some (q, tag),
                                         unit := r.unit, cause := some (.status (statusOf o)), count := 0, data := [] } s t)
  | .requester _, .writePosted, none => t.att n = s.att n
  | .attention, _, _ => s.restarting = false → AttentionEnded (s.profile n) (s.att n) (t.att n) ∧
      NoticeRaised { kind := .attention, stamp := s.timeBase, slot := some n, requesterTag := none, unit := none,
                     cause := some (.status (statusOf o)), count := (s.att n).repeatCount, data := readData r o } s t

/-- Only the notices with their counters and the slot's attention record are looked at. -/
theorem DataHanded.andThen {a : List Field} (h : DataHanded n r o s t) (f : Unchanged a t u)
    (h1 : Field.notices ∉ a := by decide) (h2 : Field.lostCount ∉ a := by decide) (h3 : Field.firstLoss ∉ a := by decide)
    (h4 : Field.attention ∉ a := by decide) : DataHanded n r o s u := by
  have e1 : t.notices = u.notices := f .notices h1
  have e2 : t.lostCount = u.lostCount := f .lostCount h2
  have e3 : t.firstLoss = u.firstLoss := f .firstLoss h3
  have e4 : u.att n = t.att n := f.att n h4
  unfold DataHanded NoticeRaised at h ⊢
  rw [← e1, ← e2, ← e3, e4]
  exact h

theorem DataHanded.after {a : List Field} (h : DataHanded n r o t u) (f : Unchanged a s t)
    (h1 : Field.notices ∉ a := by decide) (h2 : Field.lostCount ∉ a := by decide) (h3 : Field.firstLoss ∉ a := by decide)
    (h4 : Field.attention ∉ a := by decide) (h5 : Field.timeBase ∉ a := by decide) (h6 : Field.restart ∉ a := by decide)
    (h7 : Field.profiles ∉ a := by decide) : DataHanded n r o s u := by
  have e1 : s.notices = t.notices := f .notices h1
  have e2 : s.lostCount = t.lostCount := f .lostCount h2
  have e3 : s.firstLoss = t.firstLoss := f .firstLoss h3
  have e4 : t.att n = s.att n := f.att n h4
  have e5 : s.timeBase = t.timeBase := f .timeBase h5
  have e6 : t.restarting = s.restarting := f.restarting h6
  have e7 : t.profile n = s.profile n := f.profile n h7
  unfold DataHanded NoticeRaised at h ⊢
  rw [e1, e2, e3, e5, ← e4, ← e6, ← e7]
  exact h

theorem handOff_handed (hr : r.slot = n) : DataHanded n r o s (s.handOff r (outcomeStatus o) (readData r o) true) := by
  unfold DataHanded
  cases hown : r.owner with
  | requester q =>
    have hatt := (handOff_frame_requester (s := s) hown (outcomeStatus o) (readData r o) true).att n
    cases hop : r.op with
    | read => exact ⟨by rw [handOff_read hown hop], hatt⟩
    | write => exact ⟨by rw [handOff_write hown hop], hatt⟩
    | writePosted =>
      cases htag : r.tag with
      | none => exact hatt
      | some tag =>
        refine ⟨hatt, fun hok => ?_, fun hbad => ?_⟩
        · rw [← statusOf_eq] at hok
          simp only [State.handOff, hown, hop, hok, if_true]
        · rw [← statusOf_eq] at hbad ⊢
          rw [handOff_posted hown htag hop hbad, hr]
          exact raise_raised s _
  | attention =>
    intro hrs
    have hdata : (if outcomeStatus o = .ok then readData r o else []) = readData r o := by
      cases o <;> rfl
    have hdef : s.handOff r (outcomeStatus o) (readData r o) true = s.endAction n (outcomeStatus o) (readData r o) true := by
      simp only [State.handOff, hown, hdata, State.fetchDone, hrs, hr, Bool.false_eq_true, if_false]
    rw [hdef, ← statusOf_eq]
    exact ⟨endAction_ended s n _ _, endAction_raised s n _ _ _⟩

theorem dataDone_handed (hr : r.slot = n) : DataHanded n r o s (s.dataDone n r rest o) :=
  ((handOff_handed hr).after (setQueue_frame s n rest)).andThen (used_frame _ n)

/-! ## The slot moves on -/

/-- How the slot of a completed record moves on: a DRAINING one towards rest, any other to its idle hold (R11, R14). -/
def State.movedOn (s : State) (n : Slot) (draining : Bool) : State :=
  if draining = true then s.towardsRest n else s.startIdleHold n

theorem movedOn_kept (s : State) (n : Slot) (d : Bool) : ((s.movedOn n d).slot n).pin = (s.slot n).pin ∧
    ((s.movedOn n d).slot n).failures = (s.slot n).failures := by
  unfold State.movedOn
  split
  · exact towardsRest_kept s n
  · rw [startIdleHold_slot]; exact ⟨rfl, rfl⟩

theorem movedOn_queue (s : State) (n : Slot) (d : Bool) : (s.movedOn n d).queue n = s.queue n := by
  unfold State.movedOn
  split
  · exact towardsRest_queue s n
  · exact (startIdleHold_frame s n).queue n

theorem movedOn_frame (s : State) (n : Slot) (d : Bool) : Unchanged wakingFields s (s.movedOn n d) :=
  Unchanged.ite (fun _ => towardsRest_frame s n) (fun _ => (startIdleHold_frame s n).mono (by decide))

theorem movedOn_onlySlot (s : State) (n : Slot) (d : Bool) : OnlySlot n s (s.movedOn n d) := by
  unfold State.movedOn
  split
  · exact towardsRest_onlySlot s n
  · exact startIdleHold_onlySlot s n

theorem movedOn_claimsSound (h : s.claimsSound) (n : Slot) (d : Bool) : (s.movedOn n d).claimsSound := by
  unfold State.movedOn
  split
  · exact towardsRest_claimsSound h n
  · exact (startIdleHold_frame s n).claimsSound h

/-! ## The end of a data exchange -/

/-- What holds whatever the state of the slot: the record has left, its response stands, the count is kept. -/
theorem dataEnded_common (hcl : s.claims = []) (hr : r.slot = e.slot) (d : Bool) :
    let t := s.finish (((s.ended e o).dataDone e.slot r rest o).movedOn e.slot d)
    t.exchange = none ∧ t.responseTimeout = none ∧ t.queue e.slot = rest ∧ (t.slot e.slot).pin = (s.slot e.slot).pin ∧
    (t.slot e.slot).failures = failuresAfter e.command o (s.slot e.slot).failures ∧
    t.responses = s.responses ++ handedOn r (statusOf o) (readData r o) ∧ OnlySlot e.slot s t ∧ Unchanged slotEventFields s t := by
  have hbase := ended_frame s e o
  have hslot := ended_slot s e o
  have hdone := dataDone_frame (s.ended e o) e.slot r rest o
  have hclb : (s.ended e o).claims = [] := (hbase .claims (by decide) : s.claims = _).symm.trans hcl
  have hcld : ((s.ended e o).dataDone e.slot r rest o).claims = [] := (hdone .claims (by decide) : State.claims _ = _).symm.trans hclb
  have hmoved := movedOn_frame ((s.ended e o).dataDone e.slot r rest o) e.slot d
  have hkept := movedOn_kept ((s.ended e o).dataDone e.slot r rest o) e.slot d
  have hfin := finish_sound s _ (movedOn_claimsSound (Or.inl hcld) e.slot d)
  rw [hdone.slot e.slot, hslot] at hkept
  obtain ⟨hpin, hfail⟩ := hkept
  refine ⟨(hfin .exchange (by decide)).symm.trans ((hmoved .exchange (by decide)).symm.trans (hdone .exchange (by decide)).symm),
    (hfin .responseTimeout (by decide)).symm.trans
      ((hmoved .responseTimeout (by decide)).symm.trans (hdone .responseTimeout (by decide)).symm),
    (hfin.queue e.slot).trans ((movedOn_queue _ _ d).trans (dataDone_queue _ _ r rest o)), ?_, ?_, ?_,
    (((ended_onlySlot s e o).trans (dataDone_onlySlot hr)).trans (movedOn_onlySlot _ _ d)).trans
      (hfin.onlySlot e.slot (by decide) (by decide) (by decide) (by decide)),
    ((hbase.mono (by decide)).trans (hdone.mono (by decide))).trans ((hmoved.mono (by decide)).trans (hfin.mono (by decide)))⟩
  · rw [hfin.slot e.slot]; exact hpin
  · rw [hfin.slot e.slot]; exact hfail
  · rw [← (hfin .responses (by decide) : State.responses _ = State.responses _),
      ← (hmoved .responses (by decide) : State.responses _ = State.responses _), dataDone_responses, statusOf_eq,
      ← (hbase .responses (by decide) : s.responses = _)]

/-- An AWAKE slot: most recently used, its idle hold as R11 has it, and what the record's completion reports. -/
theorem dataEnded_awake (hcl : s.claims = []) (hr : r.slot = e.slot) (hs : (s.slot e.slot).state = .awake) :
    let t := s.finish (((s.ended e o).dataDone e.slot r rest o).startIdleHold e.slot)
    t.slot e.slot = { s.slot e.slot with
      failures := failuresAfter e.command o (s.slot e.slot).failures
      step := if rest = [] ∧ (s.slot e.slot).pin = false ∧ (s.profile e.slot).idleHold ≠ 0 ∧ s.restarting = false
        then some { purpose := .idleHold, ms := (s.profile e.slot).idleHold } else (s.slot e.slot).step } ∧
    (e.slot ∈ s.useOrder → t.useOrder = s.useOrder.filter (· != e.slot) ++ [e.slot]) ∧ DataHanded e.slot r o s t := by
  have hbase := ended_frame s e o
  have hslot := ended_slot s e o
  have hdone := dataDone_frame (s.ended e o) e.slot r rest o
  have hidle := startIdleHold_frame ((s.ended e o).dataDone e.slot r rest o) e.slot
  have hclb : (s.ended e o).claims = [] := (hbase .claims (by decide) : s.claims = _).symm.trans hcl
  have hcld : ((s.ended e o).dataDone e.slot r rest o).claims = [] := (hdone .claims (by decide) : State.claims _ = _).symm.trans hclb
  have hcom : s.committed = (((s.ended e o).dataDone e.slot r rest o).startIdleHold e.slot).committed :=
    (hbase .committed (by decide) : s.committed = _).trans
      ((hdone .committed (by decide) : State.committed _ = _).trans (hidle .committed (by decide)))
  have hfin := finish_frame_due (s := s) (hidle.claimsSound (Or.inl hcld)) hcom.le
  have huo : s.useOrder = (s.ended e o).useOrder := hbase .useOrder (by decide)
  refine ⟨?_, fun hmem => ?_, ?_⟩
  · have hdue : ((s.ended e o).dataDone e.slot r rest o).idleHoldDue e.slot (s.profile e.slot).idleHold = true ↔
        rest = [] ∧ (s.slot e.slot).pin = false ∧ (s.profile e.slot).idleHold ≠ 0 ∧ s.restarting = false := by
      rw [idleHoldDue_iff, hdone.slot e.slot, hslot, dataDone_queue, hdone.restarting, hbase.restarting,
        hdone.inFlight e.slot, ended_inFlight]
      simp [hs, and_left_comm]
    rw [hfin.slot e.slot, startIdleHold_slot, hdone.profile e.slot, hbase.profile e.slot, hdone.slot e.slot, hslot]
    simp only [hdue]
  · rw [← (hfin .useOrder (by decide) : State.useOrder _ = State.useOrder _),
      ← (hidle .useOrder (by decide) : State.useOrder _ = State.useOrder _), dataDone_useOrder (huo ▸ hmem), ← huo]
  · exact (((dataDone_handed hr).after hbase).andThen hidle).andThen hfin

/-- A DRAINING slot on its way to SLUMBER asks for its exchange (R14). -/
theorem dataEnded_towardsSlumber {cause : DrainCause} (hcl : s.claims = []) (hs : (s.slot e.slot).state = .draining)
    (hd : (s.slot e.slot).drain = some { cause := cause, target := .slumber }) (hst : s.stopped = false) :
    let t := s.finish (((s.ended e o).dataDone e.slot r rest o).towardsRest e.slot)
    (t.slot e.slot).state = .draining ∧ t.control = s.control ++ [{ slot := e.slot, command := .slumber }] := by
  have hbase := ended_frame s e o
  have hdone := dataDone_frame (s.ended e o) e.slot r rest o
  have hslot := (hdone.slot e.slot).trans (ended_slot s e o)
  have hclb : (s.ended e o).claims = [] := (hbase .claims (by decide) : s.claims = _).symm.trans hcl
  have hcld : ((s.ended e o).dataDone e.slot r rest o).claims = [] := (hdone .claims (by decide) : State.claims _ = _).symm.trans hclb
  have hstop : ((s.ended e o).dataDone e.slot r rest o).stopped = false :=
    (hdone .stopped (by decide) : (s.ended e o).stopped = _).symm.trans ((hbase .stopped (by decide) : s.stopped = _).symm.trans hst)
  have hctl : ((s.ended e o).dataDone e.slot r rest o).control = s.control :=
    (hdone .control (by decide) : (s.ended e o).control = _).symm.trans (hbase .control (by decide) : s.control = _).symm
  rw [towardsRest_slumber (c := cause) (by rw [hslot]; exact hs) (by rw [hslot]; exact hd) ((hdone.inFlight e.slot).trans rfl)]
  have hask := askControl_frame ((s.ended e o).dataDone e.slot r rest o) e.slot .slumber
  have hfin := finish_sound s _ (hask.claimsSound (Or.inl hcld))
  refine ⟨?_, ?_⟩
  · rw [hfin.slot e.slot, hask.slot e.slot, hslot]; exact hs
  · rw [← (hfin .control (by decide) : State.control _ = State.control _), State.askControl, if_neg (by rw [hstop]; exact Bool.noConfusion), hctl]

/-- A DRAINING slot on its way to OFF is switched off (R14). -/
theorem dataEnded_towardsOff {cause : DrainCause} (hcl : s.claims = []) (hs : (s.slot e.slot).state = .draining)
    (hd : (s.slot e.slot).drain = some { cause := cause, target := .off }) :
    let t := s.finish (((s.ended e o).dataDone e.slot r rest o).towardsRest e.slot)
    (t.slot e.slot).state = .off ∧ (t.slot e.slot).sen = false ∧ t.committed = s.committed - (s.slot e.slot).grantedAwake ∧
      e.slot ∉ t.useOrder ∧ (rest ≠ [] → t.listed e.slot = true) := by
  have hbase := ended_frame s e o
  have hdone := dataDone_frame (s.ended e o) e.slot r rest o
  have hslot := (hdone.slot e.slot).trans (ended_slot s e o)
  have hclb : (s.ended e o).claims = [] := (hbase .claims (by decide) : s.claims = _).symm.trans hcl
  have hcld : ((s.ended e o).dataDone e.slot r rest o).claims = [] := (hdone .claims (by decide) : State.claims _ = _).symm.trans hclb
  have hcom : ((s.ended e o).dataDone e.slot r rest o).committed = s.committed :=
    (hdone .committed (by decide) : (s.ended e o).committed = _).symm.trans (hbase .committed (by decide) : s.committed = _).symm
  rw [towardsRest_off (c := cause) (by rw [hslot]; exact hs) (by rw [hslot]; exact hd) ((hdone.inFlight e.slot).trans rfl)]
  obtain ⟨eslot, ecom, -, eorder, -, -, elist, -⟩ :=
    enterOff_entered ((s.ended e o).dataDone e.slot r rest o) e.slot (restExempt cause)
  have hfin := finish_sound s _ (enterOff_claimsSound (n := e.slot) (Or.inl hcld) (restExempt cause))
  refine ⟨by rw [hfin.slot e.slot, eslot], by rw [hfin.slot e.slot, eslot], ?_, ?_, fun hne => ?_⟩
  · rw [← (hfin .committed (by decide) : State.committed _ = State.committed _), ecom, hcom, hslot]
    simp [SlotRecord.charge, hs]
  · rw [← (hfin .useOrder (by decide) : State.useOrder _ = State.useOrder _), eorder]
    simp
  · rw [hfin.listed e.slot]
    exact elist (by rw [dataDone_queue]; exact hne)

/-- Settles O50: what holds in every state, and then the slot by its state. -/
theorem dataExchangeCompletesRecord : Obligations.DataExchangeCompletesRecord := by
  intro c e o r rest s hends hcl hb hover hc hq hr
  have hcount : failuresAfter e.command o (s.slot e.slot).failures = countAfter o (s.slot e.slot).failures :=
    failuresAfter_eq (by rw [hc]; split <;> exact ChainCommand.noConfusion) _
  have hrun := attemptEnds_run hends
  rw [attemptEnd_data hb hover hc hq] at hrun
  have hdata := readData_eq r o
  obtain ⟨hx, hto, hqueue, hpin, hfail, hresp, honly, hframe⟩ :=
    dataEnded_common (s := s) (e := e) (o := o) (r := r) (rest := rest) hcl hr (decide ((s.slot e.slot).state = .draining))
  simp only [State.movedOn, decide_eq_true_eq] at hx hto hqueue hpin hfail hresp honly hframe
  refine ⟨_, hrun, hx, hto, hqueue, hpin, hfail.trans hcount, ?_, fun hs => ?_, fun cause hs hd hst => ?_, fun cause hs hd => ?_,
    honly, hframe⟩
  · rw [hresp, hdata]
    cases hown : r.owner with
    | attention => simp [handedOn, hown]
    | requester q =>
      cases hop : r.op with
      | read => simp [handedOn, hown, hop] <;> rfl
      | write => simp [handedOn, hown, hop]
      | writePosted => simp [handedOn, hop]
  · rw [if_neg (by rw [hs]; exact SlotState.noConfusion)]
    obtain ⟨hslot, horder, hhanded⟩ := dataEnded_awake (s := s) (e := e) (o := o) (r := r) (rest := rest) hcl hr hs
    rw [hcount] at hslot
    refine ⟨hslot, horder, ?_⟩
    unfold DataHanded at hhanded
    rw [hdata] at hhanded
    exact hhanded
  · rw [if_pos hs]
    exact dataEnded_towardsSlumber hcl hs hd hst
  · rw [if_pos hs]
    exact dataEnded_towardsOff hcl hs hd

end Sys2Proof.Machine
end

section
/-! SLOT_OFF: the queued records, the attention action, the entry, and the slot by its state (R157). -/

set_option Elab.async false

namespace Sys2Proof.Machine

variable {s t u : State} {n : Slot} {c : Taken}

/-! ## The QUEUED records complete ABORTED -/

/-- Records that complete without data and not OK: what a requester waits for joins the response queue (R87). -/
theorem flatMap_handedOn {st : Status} (hst : st ≠ .ok) : ∀ rs : List Record, rs.flatMap (fun r => handedOn r st []) =
    (rs.filter (fun r => r.owner != .attention && r.op != .writePosted)).map (fun r => .record { r with
      state := .done, deadline := none, status := some st, readData := if r.op = .read then none else r.readData })
  | [] => rfl
  | r :: rs => by
    rw [List.flatMap_cons, flatMap_handedOn hst rs]
    by_cases hr : r.owner ≠ .attention ∧ r.op ≠ .writePosted
    · have hb : (r.owner != .attention && r.op != .writePosted) = true := by simpa using hr
      simp [handedOn, hr, hb, hst]
    · have hb : (r.owner != .attention && r.op != .writePosted) = false := by simpa using hr
      rw [handedOn, if_neg hr, List.filter_cons, hb]
      rfl

theorem abortQueued_frame (s : State) (n : Slot) :
    Unchanged [.queues, .responses, .attention, .notices, .lostCount, .firstLoss] s (s.abortQueued n) :=
  (setQueue_frame s n _).andThen (completeAll_frame _ _ _ _) (by decide) (by decide)

theorem abortQueued_queue (s : State) (n : Slot) :
    (s.abortQueued n).queue n = (s.queue n).filter (fun r => r.state != .queued) := by
  rw [State.abortQueued, (completeAll_frame _ _ _ _).queue n]
  simp

theorem abortQueued_responses (s : State) (n : Slot) : (s.abortQueued n).responses = s.responses ++
    ((s.queue n).filter (fun r => r.state == .queued && r.owner != .attention && r.op != .writePosted)).map
      (fun r => .record { r with
        state := .done, deadline := none, status := some .aborted, readData := if r.op = .read then none else r.readData }) := by
  have hfilter : ((s.queue n).filter (fun r => r.state == .queued)).filter
      (fun r => r.owner != .attention && r.op != .writePosted) =
        (s.queue n).filter (fun r => r.state == .queued && r.owner != .attention && r.op != .writePosted) := by
    rw [List.filter_filter]
    refine List.filter_congr (fun r _ => ?_)
    rw [Bool.and_comm, Bool.and_assoc]
  rw [State.abortQueued, completeAll_responses, flatMap_handedOn (by decide), hfilter]
  rfl

theorem abortQueued_onlySlot (h : s.queuesSound) : OnlySlot n s (s.abortQueued n) :=
  (setQueue_onlySlot s n _).trans (completeAll_onlySlot n _ _ _ _ (fun r hr => h n r (List.mem_filter.mp hr).1))

/-- No record of a slot in SLUMBER is in flight (R83). -/
theorem dispatchesSound_slumber (h : s.dispatchesSound) (hs : (s.slot n).state = .slumber) :
    ∀ r ∈ s.queue n, r.state = .queued := by
  obtain ⟨htail, hhead⟩ := h n
  cases hq : s.queue n with
  | nil => simp
  | cons r rest =>
    rw [hq] at htail hhead
    intro x hx
    rcases List.mem_cons.mp hx with rfl | hx
    · refine Decidable.byContradiction (fun hne => ?_)
      obtain ⟨-, hst, -⟩ := hhead x (by simp) hne
      rw [hs] at hst
      rcases hst with h | h <;> exact SlotState.noConfusion h
    · exact htail x (by simpa using hx)

/-- Without an exchange in flight, and in SLUMBER, nothing of the queue is left (R83). -/
theorem abortQueued_empty (h : s.dispatchesSound) (hf : s.inFlight n = false ∨ (s.slot n).state = .slumber) :
    (s.abortQueued n).queue n = [] := by
  have hall : ∀ r ∈ s.queue n, r.state = .queued :=
    hf.elim (fun hf => dispatchesSound_queued s h hf) (fun hs => dispatchesSound_slumber h hs)
  rw [abortQueued_queue]
  exact List.filter_eq_nil_iff.mpr (fun r hr => by rw [hall r hr]; decide)

/-! ## The attention action ends -/

theorem attentionOff_onlySlot (s : State) (n : Slot) : OnlySlot n s (s.attentionOff n) := by
  unfold State.attentionOff
  split
  · exact OnlySlot.refl n s
  · exact OnlySlot.refl n s
  · exact setAtt_onlySlot s n _
  · exact (setClaims_frame s _).onlySlot n (by decide) (by decide) (by decide) (by decide) |>.trans (endAction_onlySlot _ n _ _ _)
  · exact endAction_onlySlot s n _ _ _

theorem setClaims_filter (hc : s.claims = []) : ({ s with claims := s.claims.filter (· != n) } : State) = s := by
  have h : s.claims.filter (· != n) = s.claims := by rw [hc]; rfl
  rw [h]

theorem attentionOff_frame (hc : s.claims = []) :
    Unchanged [.attention, .notices, .lostCount, .firstLoss] s (s.attentionOff n) := by
  unfold State.attentionOff
  split
  · exact Unchanged.refl _ s
  · exact Unchanged.refl _ s
  · exact (setAtt_frame s n _).mono (by decide)
  · rw [setClaims_filter hc]; exact endAction_frame s n _ _ _
  · exact endAction_frame s n _ _ _

/-! ## Switching off an unlisted slot without records -/

theorem gainAtRest_exempt (hq : s.queue n = []) : s.gainAtRest n true = s := by
  simp [State.gainAtRest, hq]

theorem attentionAtOff_unlisted (hc : s.claims = []) (hl : s.listed n = false) :
    Unchanged [.attention, .notices, .lostCount, .firstLoss] s (s.attentionAtOff n) := by
  have hw : s.withdrawReason n .attention = s := by
    simp [State.withdrawReason, (wakeEntry_none_iff s n).mpr hl]
  unfold State.attentionAtOff
  refine Unchanged.ite (fun _ => (setAtt_frame s n _).mono (by decide)) (fun _ => ?_)
  refine Unchanged.andThen (a := [.notices, .lostCount, .firstLoss]) ?_ (setAtt_frame _ n _) (by decide) (by decide)
  split
  · rw [setClaims_filter hc]; exact raiseAttention_frame s n _ _
  · rw [hw]; exact raiseAttention_frame s n _ _
  · exact Unchanged.refl _ s
  · exact Unchanged.refl _ s
  · exact Unchanged.refl _ s

/-- What a switch-off of an unlisted slot without records can change. -/
abbrev switchedFields : List Field :=
  [.slots, .useOrder, .committed, .evictionSet, .evaluationDue, .control, .attention, .notices, .lostCount, .firstLoss]

/-- An unlisted slot without records that enters OFF under an exempt cause gains no reason, and stays unlisted (R16). -/
theorem enterOff_exempt (hq : s.queue n = []) (hc : s.claims = []) (hl : s.listed n = false) :
    Unchanged switchedFields s (s.enterOff n true) := by
  have fc := changeState_frame s n .off []
  have fa := attentionAtOff_unlisted (s := s.changeState n .off []) (n := n)
    ((fc .claims (by decide) : s.claims = _).symm.trans hc) ((fc.listed n).trans hl)
  have hrest : s.enterOff n true = (s.changeState n .off []).attentionAtOff n :=
    gainAtRest_exempt ((fa.queue n).trans ((fc.queue n).trans hq))
  rw [hrest]
  exact fc.andThen fa (by decide) (by decide)

/-! ## The slot by its state -/

/-- What SLOT OFF makes of a slot record, by its state and whether its exchange is in flight (R19, R20). -/
def OffByState (r : SlotRecord) (busy : Bool) (x : SlotRecord) : Prop :=
  match r.state with
  | .off => x = r
  | .faulted => x = r
  | .slumber => x.state = .off ∧ x.sen = false
  | .powering => if busy then x.state = .powering ∧ x.switchOff = some .offcmd else x.state = .off ∧ x.sen = false
  | .waking => if busy then x.state = .waking ∧ x.switchOff = some .offcmd else x.state = .off ∧ x.sen = false
  | .awake => if busy then x.state = .draining ∧ x.drain = some { cause := .offcmd, target := .off }
    else x.state = .off ∧ x.sen = false
  | .draining => if busy then x.state = .draining ∧ x.drain = some { cause := .offcmd, target := .off }
    else x.state = .off ∧ x.sen = false
  | .settling => x = { r with drain := some { cause := .offcmd, target := .off } }

/-- What SLOT OFF's fourth step leaves, of a slot without records unless its exchange is in flight. -/
def ResidencyOff (n : Slot) (s t : State) : Prop :=
  OffByState (s.slot n) (s.inFlight n) (t.slot n) ∧ (t.slot n).pin = (s.slot n).pin ∧ Unchanged switchedFields s t

theorem enterOff_residency (hst : (s.slot n).state ≠ .off) (hs' : (s.slot n).state ≠ .faulted)
    (hs'' : (s.slot n).state ≠ .settling) (hb : (s.slot n).state = .slumber ∨ s.inFlight n = false)
    (hv : t.slot n = (s.slot n).inOff (s.slot n).failures) (hf : Unchanged switchedFields s t) : ResidencyOff n s t := by
  refine ⟨?_, by rw [hv]; rfl, hf⟩
  unfold OffByState
  rw [hv]
  cases h : (s.slot n).state with
  | off => exact absurd h hst
  | faulted => exact absurd h hs'
  | settling => exact absurd h hs''
  | slumber => exact ⟨rfl, rfl⟩
  | _ =>
    rw [hb.resolve_left (by rw [h]; exact SlotState.noConfusion)]
    exact ⟨rfl, rfl⟩

/-- A switch-off of kind OFFCMD (R19). -/
theorem switchOff_residency (hst : (s.slot n).state = .slumber ∨ (s.slot n).state = .powering ∨ (s.slot n).state = .waking)
    (hq : s.inFlight n = false ∨ (s.slot n).state = .slumber → s.queue n = []) (hc : s.claims = []) (hl : s.listed n = false) :
    ResidencyOff n s (s.switchOff n .offcmd) := by
  unfold State.switchOff
  by_cases hb : (s.slot n).state ≠ .slumber ∧ s.inFlight n = true
  · rw [if_pos hb]
    have hslot : (s.setSlot n { s.slot n with
        step := none, limit := none, timedOut := none, switchOff := some .offcmd }).slot n = { s.slot n with
          step := none, limit := none, timedOut := none, switchOff := some .offcmd } := setSlot_slot_self s n _
    refine ⟨?_, (congrArg SlotRecord.pin hslot :), (setSlot_frame s n _).mono (by decide)⟩
    show OffByState _ _ ((s.setSlot n _).slot n)
    unfold OffByState
    rw [hslot]
    rcases hst with h | h | h
    · exact absurd h hb.1
    · rw [h, hb.2]; exact ⟨rfl, rfl⟩
    · rw [h, hb.2]; exact ⟨rfl, rfl⟩
  · rw [if_neg hb]
    have hidle : (s.slot n).state = .slumber ∨ s.inFlight n = false := by
      by_cases h : (s.slot n).state = .slumber
      · exact Or.inl h
      · exact Or.inr (by simpa [h] using hb)
    refine enterOff_residency ?_ ?_ ?_ hidle (enterOff_slot s n true) (enterOff_exempt (hq hidle.symm) hc hl)
    all_goals rcases hst with h | h | h <;> rw [h] <;> exact SlotState.noConfusion

/-- An OFFCMD drain of an AWAKE slot (R13, R20). -/
theorem startDrain_residency (hst : (s.slot n).state = .awake) (hq : s.inFlight n = false → s.queue n = []) (hc : s.claims = [])
    (hl : s.listed n = false) : ResidencyOff n s (s.startDrain n .offcmd .off) := by
  by_cases hf : s.inFlight n = true
  · obtain ⟨hslot, -, hframe⟩ := startDrain_held hst .offcmd .off (Or.inl hf)
    refine ⟨?_, by rw [hslot]; rfl, hframe.mono (by decide)⟩
    unfold OffByState
    rw [hst, hf, hslot]
    exact ⟨rfl, rfl⟩
  · have hf' : s.inFlight n = false := by simpa using hf
    have fd := drainBegun_frame hst .offcmd .off
    rw [startDrain_off .offcmd hf']
    refine enterOff_residency (by rw [hst]; decide) (by rw [hst]; decide) (by rw [hst]; decide) (Or.inr hf') ?_
      ((fd.mono (by decide)).trans (enterOff_exempt ((fd.queue n).trans (hq hf'))
        ((fd .claims (by decide) : s.claims = _).symm.trans hc) ((fd.listed n).trans hl)))
    rw [enterOff_slot, drainBegun_slot]
    rfl

/-- A drain retargeted to OFF, its pending control exchange withdrawn (R20). -/
def State.retargeted (s : State) (n : Slot) : State :=
  { s.retargetOff n with control := (s.retargetOff n).control.filter (fun x => x.slot != n) }

theorem retargeted_frame (s : State) (n : Slot) : Unchanged [.slots, .control] s (s.retargeted n) := by
  refine ((setSlot_frame s n _).mono (by decide) : Unchanged _ s (s.retargetOff n)).trans ?_
  intro f hf; cases f <;> first | rfl | exact absurd (by decide) hf

theorem retargeted_slot (s : State) (n : Slot) :
    (s.retargeted n).slot n = { s.slot n with drain := some { cause := .offcmd, target := .off } } :=
  setSlot_slot_self s n _

theorem retargeted_residency (hst : (s.slot n).state = .draining) (hq : s.inFlight n = false → s.queue n = []) (hc : s.claims = [])
    (hl : s.listed n = false) : ResidencyOff n s ((s.retargeted n).towardsRest n) := by
  have fr := retargeted_frame s n
  have hslot := retargeted_slot s n
  by_cases hf : s.inFlight n = true
  · rw [towardsRest_busy ((fr.inFlight n).trans hf)]
    refine ⟨?_, by rw [hslot], fr.mono (by decide)⟩
    unfold OffByState
    rw [hst, hf, hslot]
    exact ⟨hst, rfl⟩
  · have hf' : s.inFlight n = false := by simpa using hf
    rw [towardsRest_off (c := .offcmd) (by rw [hslot]; exact hst) (by rw [hslot]) ((fr.inFlight n).trans hf')]
    refine enterOff_residency (by rw [hst]; decide) (by rw [hst]; decide) (by rw [hst]; decide) (Or.inr hf') ?_
      ((fr.mono (by decide)).trans (enterOff_exempt ((fr.queue n).trans (hq hf'))
        ((fr .claims (by decide) : s.claims = _).symm.trans hc) ((fr.listed n).trans hl)))
    rw [enterOff_slot, hslot]
    rfl

/-- The fourth step of SLOT OFF, by the state of the slot. -/
theorem residencyOff_residency (hq : s.inFlight n = false ∨ (s.slot n).state = .slumber → s.queue n = []) (hc : s.claims = [])
    (hl : s.listed n = false) : ResidencyOff n s (s.residencyOff n) := by
  have hsame : (s.slot n).state = .off ∨ (s.slot n).state = .faulted → ResidencyOff n s s := fun h => by
    refine ⟨?_, rfl, Unchanged.refl _ s⟩
    unfold OffByState
    rcases h with h | h <;> rw [h]
  unfold State.residencyOff
  cases hst : (s.slot n).state with
  | off => exact hsame (Or.inl hst)
  | faulted => exact hsame (Or.inr hst)
  | powering => exact switchOff_residency (Or.inr (Or.inl hst)) hq hc hl
  | waking => exact switchOff_residency (Or.inr (Or.inr hst)) hq hc hl
  | slumber => exact switchOff_residency (Or.inl hst) hq hc hl
  | awake => exact startDrain_residency hst (fun h => hq (Or.inl h)) hc hl
  | draining => exact retargeted_residency hst (fun h => hq (Or.inl h)) hc hl
  | settling =>
    have hslot : (s.retargetOff n).slot n = { s.slot n with drain := some { cause := .offcmd, target := .off } } :=
      setSlot_slot_self s n _
    change ResidencyOff n s (s.retargetOff n)
    refine ⟨?_, (congrArg SlotRecord.pin hslot :), (setSlot_frame s n _).mono (by decide)⟩
    unfold OffByState
    rw [hst]
    exact hslot.trans (by rw [← hst])

/-! ## The five steps -/

/-- SLOT OFF before the pass of a victim and the answer: its first four steps (R157). -/
def State.abandoned (s : State) (n : Slot) : State := (((s.abortQueued n).attentionOff n).removeEntry n).residencyOff n

theorem residencyOff_onlySlot (s : State) (n : Slot) : OnlySlot n s (s.residencyOff n) := by
  have hre : OnlySlot n s (s.retargetOff n) := setSlot_onlySlot s n _
  unfold State.residencyOff
  split
  · exact OnlySlot.refl n s
  · exact OnlySlot.refl n s
  · exact switchOff_onlySlot s n _
  · exact switchOff_onlySlot s n _
  · exact switchOff_onlySlot s n _
  · exact startDrain_onlySlot s n _ _
  · exact (hre.trans (OnlySlot.refl n _)).trans (towardsRest_onlySlot (s.retargeted n) n)
  · exact hre

/-- The fields that the first four steps can change; reason and claims of the slot have gone, so that it gains no place in the wake
list. -/
abbrev abandonedFields : List Field := .queues :: .responses :: .wake :: switchedFields

theorem abandoned_effect (hcl : s.claims = []) (hqs : s.queuesSound) (hds : s.dispatchesSound) :
    OffByState (s.slot n) (s.inFlight n) ((s.abandoned n).slot n) ∧ ((s.abandoned n).slot n).pin = (s.slot n).pin ∧
    (s.abandoned n).queue n = (s.queue n).filter (fun r => r.state != .queued) ∧
    (s.abandoned n).responses = (s.abortQueued n).responses ∧ (s.abandoned n).listed n = false ∧
    OnlySlot n s (s.abandoned n) ∧ Unchanged abandonedFields s (s.abandoned n) := by
  have f1 := abortQueued_frame s n
  have hcl1 : (s.abortQueued n).claims = [] := (f1 .claims (by decide) : s.claims = _).symm.trans hcl
  have f2 := attentionOff_frame (n := n) hcl1
  have hcl2 : ((s.abortQueued n).attentionOff n).claims = [] := (f2 .claims (by decide) : State.claims _ = _).symm.trans hcl1
  have f3 := removeEntry_frame ((s.abortQueued n).attentionOff n) n
  have hcl3 : (((s.abortQueued n).attentionOff n).removeEntry n).claims = [] :=
    (f3 .claims (by decide) : State.claims _ = _).symm.trans hcl2
  have f23 : Unchanged [.attention, .notices, .lostCount, .firstLoss, .wake, .evaluationDue] (s.abortQueued n)
      (((s.abortQueued n).attentionOff n).removeEntry n) := f2.andThen f3 (by decide) (by decide)
  have f123 : Unchanged [.queues, .responses, .attention, .notices, .lostCount, .firstLoss, .wake, .evaluationDue] s
      (((s.abortQueued n).attentionOff n).removeEntry n) := f1.andThen f23 (by decide) (by decide)
  have honly := (((abortQueued_onlySlot (n := n) hqs).trans (attentionOff_onlySlot _ n)).trans
    (f3.onlySlot n (by decide) (by decide) (by decide) (by decide))).trans (residencyOff_onlySlot _ n)
  have hempty : s.inFlight n = false ∨ (s.slot n).state = .slumber →
      (((s.abortQueued n).attentionOff n).removeEntry n).queue n = [] := fun h =>
    (f23.queue n).trans (abortQueued_empty hds h)
  have hlist := removeEntry_listed ((s.abortQueued n).attentionOff n) n
  obtain ⟨hoff, hpin, hres⟩ := residencyOff_residency (s := ((s.abortQueued n).attentionOff n).removeEntry n) (n := n)
    (fun h => hempty (by rwa [f123.inFlight n, f123.slot n] at h)) hcl3 hlist
  rw [f123.slot n, f123.inFlight n] at hoff
  rw [f123.slot n] at hpin
  refine ⟨hoff, hpin, (hres.queue n).trans ((f23.queue n).trans (abortQueued_queue s n)),
    ((hres .responses (by decide) : State.responses _ = _).symm.trans (f23 .responses (by decide) : State.responses _ = _).symm),
    (hres.listed n).trans hlist, honly, f123.andThen hres (by decide) (by decide)⟩

/-- On a shedding victim a selection pass becomes due (R63). -/
def State.victimPass (s : State) (n : Slot) (victim : Bool) : State :=
  if victim = true then (s.abandoned n).markPass else s.abandoned n

theorem victimPass_frame (s : State) (n : Slot) (v : Bool) : Unchanged [.passDue] (s.abandoned n) (s.victimPass n v) :=
  Unchanged.ite (fun _ => markPass_frame _) (fun _ => Unchanged.refl _ _)

theorem slotOffOp_eq (c : Taken) (n : Slot) (s : State) :
    slotOffOp c n s = s.finish ((s.victimPass n (s.slot n).isVictim).respond c .ok []) := rfl

theorem isVictim_of {r : SlotRecord} (h : (∃ d, r.drain = some d ∧ d.cause = .shed) ∨ r.switchOff = some .shed) :
    r.isVictim = true := by
  rcases h with ⟨d, hd, hc⟩ | h
  · simp [SlotRecord.isVictim, hd, hc]
  · simp [SlotRecord.isVictim, h]

theorem endShedding_sheds (s : State) (c : ShedEndCause) : (s.endShedding c).sheds = false := by
  unfold State.endShedding
  rw [(markEvaluation_frame _).sheds, (raise_frame _ _).sheds]
  rfl

/-- The end of an event does not activate shedding. -/
theorem sheds_of_finish (hcl : t.claimsSound) (hs : (s.finish t).sheds = true) : t.sheds = true := by
  refine Bool.eq_true_of_not_eq_false (fun h => ?_)
  rw [finish_notShedding hcl h] at hs
  split at hs
  · rw [(markEvaluation_frame t).sheds, h] at hs; exact Bool.noConfusion hs
  · rw [h] at hs; exact Bool.noConfusion hs

/-- A due pass stays due through the end of the event, unless the event ends shedding. -/
theorem finish_passDue (hcl : t.claimsSound) (hs : (s.finish t).sheds = true) (hp : t.passDue = true) :
    (s.finish t).passDue = true := by
  dsimp only [State.finish] at hs ⊢
  rw [serveClaims_none t hcl] at hs ⊢
  generalize h2 : (if newCandidate s t = true then t.markEvaluation else t) = t2 at hs ⊢
  have hp2 : t2.passDue = true := by
    rw [← h2]
    split
    · rw [← (markEvaluation_frame t .passDue (by decide) : t.passDue = _)]; exact hp
    · exact hp
  generalize h3 : (if courseChanged s t2 = true then t2.markPass else t2) = t3 at hs ⊢
  have hp3 : t3.passDue = true := by
    rw [← h3]
    split
    · rw [markPass_due, hp2]; rfl
    · exact hp2
  by_cases hend : t3.sheds = true ∧ t3.committed < s.committed ∧ t3.committed ≤ t3.effectiveLimit
  · rw [if_pos hend] at hs
    exact absurd hs (by rw [endShedding_sheds]; exact Bool.noConfusion)
  · rw [if_neg hend]; exact hp3

/-- SLOT OFF on a shedding victim leaves a pass due where shedding is still active at its end (R63). -/
theorem slotOffOp_passDue (c : Taken) (hcl : (s.victimPass n (s.slot n).isVictim).claimsSound) (hv : (s.slot n).isVictim = true)
    (hr : (s.abandoned n).restarting = false) (hsh : (slotOffOp c n s).sheds = true) : (slotOffOp c n s).passDue = true := by
  have fpass := victimPass_frame s n (s.slot n).isVictim
  have hdue : (s.abandoned n).sheds = true → (s.victimPass n (s.slot n).isVictim).passDue = true := fun hs => by
    rw [hv, State.victimPass, if_pos rfl, markPass_due, hs, hr]
    simp
  rw [slotOffOp_eq] at hsh ⊢
  generalize s.victimPass n (s.slot n).isVictim = v at *
  have f := respond_frame v c .ok []
  have hs : v.sheds = true := f.sheds.symm.trans (sheds_of_finish (respond_claimsSound hcl c .ok []) hsh)
  exact finish_passDue (respond_claimsSound hcl c .ok []) hsh
    ((f .passDue (by decide) : v.passDue = _).symm.trans (hdue (fpass.sheds.symm.trans hs)))

/-- Settles O30: the steps of `abandoned_effect`, and then the answer and the end of the event. -/
theorem slotOffAbandonsAndSwitchesOff : Obligations.SlotOffAbandonsAndSwitchesOff := by
  intro b frame rest c s hdue hk ha hm
  obtain ⟨hbad, hrun⟩ := slotCommand_run hdue hk ha hm slotOffOp
  refine ⟨hbad, fun n hn hcl hqs hds => ?_⟩
  obtain ⟨hoff, hpin, hqueue, hresp, hlist, honly, hframe⟩ := abandoned_effect (s := s.unqueued rest) (n := n) hcl hqs hds
  have fpass := victimPass_frame (s.unqueued rest) n ((s.unqueued rest).slot n).isVictim
  have ftot : Unchanged (.passDue :: abandonedFields) (s.unqueued rest)
      ((s.unqueued rest).victimPass n ((s.unqueued rest).slot n).isVictim) := hframe.andThen fpass (by decide) (by decide)
  have hclu : ((s.unqueued rest).victimPass n ((s.unqueued rest).slot n).isVictim).claimsSound :=
    Or.inl ((ftot .claims (by decide) : State.claims _ = _).symm.trans hcl)
  have hfin := finish_sound (s.unqueued rest) _ (respond_claimsSound hclu c .ok [])
  have hout : Unchanged [.immediate, .responses, .passDue, .shedding, .evaluationDue, .notices, .lostCount, .firstLoss]
      ((s.unqueued rest).abandoned n) (slotOffOp c n (s.unqueued rest)) :=
    (fpass.mono (by decide)).trans ((respond_frame _ c .ok []).andThen hfin (by decide) (by decide))
  have hresp' : ((s.unqueued rest).victimPass n ((s.unqueued rest).slot n).isVictim).responses =
      ((s.unqueued rest).abortQueued n).responses := (fpass .responses (by decide) : State.responses _ = _).symm.trans hresp
  obtain ⟨himm, hres, hing⟩ := finish_answered ftot hfin
  refine ⟨_, hrun n hn, (hout.queue n).trans hqueue, ?_, himm, hing, fun _ => (hout.listed n).trans hlist, ?_, fun hv hr hsh => ?_, ?_,
    honly.trans (hout.onlySlot n (by decide) (by decide) (by decide) (by decide)), ?_⟩
  · rw [slotOffOp_eq, hres, hresp', abortQueued_responses]
    rfl
  · rw [hout.slot n]; exact hpin
  · exact slotOffOp_passDue c hclu (isVictim_of hv) (hframe.restarting.trans hr) hsh
  · rw [hout.slot n]; exact hoff
  · exact (hframe.andThen hout (by decide) (by decide) : Unchanged [.immediate, .responses, .queues, .attention, .notices,
      .lostCount, .firstLoss, .wake, .slots, .useOrder, .committed, .evictionSet, .control, .evaluationDue, .passDue, .shedding]
      (s.unqueued rest) _).fromIngress

end Sys2Proof.Machine
end

section
/-! RESTART_COMPLETION (R163). -/

set_option Elab.async false

namespace Sys2Proof.Machine

variable {s t u : State} {n : Slot} {c : Taken}

/-! ## The notice queue only grows -/

theorem raise_prefix (s : State) (x : Notice) : s.notices <+: (s.raise x).notices := by
  unfold State.raise
  split
  · exact List.prefix_append _ _
  · exact List.prefix_refl _

theorem endAction_prefix (s : State) (n : Slot) (st : Status) (d : List Byte) (h : Bool) :
    s.notices <+: (s.endAction n st d h).notices := raise_prefix s _

theorem handOff_prefix (s : State) (r : Record) (st : Status) (d : List Byte) (h : Bool) :
    s.notices <+: (s.handOff r st d h).notices := by
  unfold State.handOff
  split
  · unfold State.fetchDone
    split
    · exact List.prefix_refl _
    · exact endAction_prefix s _ _ _ _
  · split
    · split
      · exact List.prefix_refl _
      · exact raise_prefix s _
    · exact List.prefix_refl _
    · exact List.prefix_refl _

theorem foldl_prefix {α : Type} {f : State → α → State} (h : ∀ s a, s.notices <+: (f s a).notices) :
    ∀ (l : List α) (s : State), s.notices <+: (l.foldl f s).notices
  | [], _ => List.prefix_refl _
  | a :: l, s => (h s a).trans (foldl_prefix h l (f s a))

theorem completeAll_prefix (s : State) (rs : List Record) (st : Record → Status) (h : Bool) :
    s.notices <+: (s.completeAll rs st h).notices :=
  foldl_prefix (fun s r => handOff_prefix s r (st r) [] h) rs s

theorem restartRecords_prefix (s : State) (n : Slot) : s.notices <+: (s.restartRecords n).notices :=
  completeAll_prefix (s.setQueue n []) _ _ _

theorem changeState_prefix (s : State) (n : Slot) (new : SlotState) (x : List Byte) :
    s.notices <+: (s.changeState n new x).notices := by
  have hr : s.notices <+: (s.reportChange n new x).notices := by
    unfold State.reportChange
    split
    · exact raise_prefix s _
    · exact List.prefix_refl _
  have hl : ∀ (t : State) (a b : Nat), t.notices = (t.release a b).notices := fun t a b =>
    (release_frame t a b) .notices (by decide)
  have hv : ∀ t : State, t.notices = (t.leaveEvictionSet n).notices := fun t =>
    (leaveEvictionSet_frame t n) .notices (by decide)
  dsimp only [State.changeState]
  split <;> simpa [← hl, ← hv] using hr

theorem restartSlot_prefix (s : State) (n : Slot) : s.notices <+: (s.restartSlot n).notices := by
  unfold State.restartSlot
  split
  · exact changeState_prefix s n .off []
  · exact List.prefix_refl _

/-! ## The records of every slot -/

theorem restartRecords_queue (s : State) (n m : Slot) :
    (s.restartRecords n).queue m = if m = n then [] else s.queue m := by
  rw [State.restartRecords, (completeAll_frame _ _ _ _).queue m]
  by_cases hm : m = n
  · subst hm; simp
  · rw [if_neg hm, (setQueue_onlySlot s n [] m hm).2.2.1]

theorem restartRecords_queues : ∀ (l : List Slot) (s : State) (m : Slot),
    (l.foldl State.restartRecords s).queue m = if m ∈ l then [] else s.queue m
  | [], s, m => by simp
  | n :: l, s, m => by
    rw [List.foldl_cons, restartRecords_queues l, restartRecords_queue]
    by_cases h1 : m ∈ l <;> by_cases h2 : m = n <;> simp [h1, h2]

/-- What the records of a slot leave in the response queue as they complete ABORTED (R92). -/
def State.abortedResponses (s : State) (n : Slot) : List ResponseItem :=
  (s.queue n).flatMap (fun r => handedOn r .aborted [])

theorem restartRecords_responses : ∀ (l : List Slot), l.Nodup → ∀ s : State,
    (l.foldl State.restartRecords s).responses = s.responses ++ l.flatMap s.abortedResponses
  | [], _, s => by simp
  | n :: l, hd, s => by
    obtain ⟨hn, hl⟩ := List.nodup_cons.mp hd
    have hhead : (s.restartRecords n).responses = s.responses ++ s.abortedResponses n :=
      completeAll_responses _ _ (s.queue n) (s.setQueue n [])
    have htail : l.flatMap (s.restartRecords n).abortedResponses = l.flatMap s.abortedResponses := by
      refine List.flatMap_congr (fun m hm => ?_)
      have hmn : m ≠ n := fun h => hn (by rw [← h]; exact hm)
      rw [State.abortedResponses, restartRecords_queue, if_neg hmn, State.abortedResponses]
    rw [List.foldl_cons, restartRecords_responses l hl, hhead, htail, List.flatMap_cons, List.append_assoc]

/-! ## The completion, part by part -/

/-- The state in which the records of every slot have completed (R92). -/
def State.restartAborted (s : State) : State := allSlots.foldl State.restartRecords s.restartNotices

theorem restartAborted_frame (s : State) : Unchanged [.claims] s.restartAborted s.restartCleared := setClaims_frame _ []

theorem restartAborted_queue (s : State) (n : Slot) : s.restartAborted.queue n = [] := by
  rw [State.restartAborted, restartRecords_queues, if_pos (mem_allSlots n)]

theorem restartAborted_responses (s : State) :
    s.restartAborted.responses = s.responses ++ allSlots.flatMap s.abortedResponses := by
  have fn := restartNotices_frame s
  have hq : s.restartNotices.abortedResponses = s.abortedResponses := funext fun n => by
    rw [State.abortedResponses, State.abortedResponses, fn.queue n]
  rw [State.restartAborted, restartRecords_responses allSlots (List.nodup_finRange 24), hq,
    ← (fn .responses (by decide) : s.responses = _)]

theorem restartAborted_prefix (s : State) : s.restartNotices.notices <+: s.restartAborted.notices :=
  foldl_prefix restartRecords_prefix allSlots s.restartNotices

/-- The state before steps 4 to 7 of the restart. -/
def State.restartOff (s : State) : State := allSlots.foldl State.restartSlot s.restartCleared

theorem restartOff_frame (s : State) : Unchanged [.slots, .useOrder, .committed, .evictionSet, .evaluationDue, .control, .notices,
    .lostCount, .firstLoss] s.restartCleared s.restartOff :=
  Unchanged.foldl (fun s n => (restartSlot_frame s n).mono (by decide)) allSlots s.restartCleared

theorem restartOff_total (s : State) : Unchanged [.queues, .responses, .attention, .notices, .lostCount, .firstLoss, .claims, .slots,
    .useOrder, .committed, .evictionSet, .evaluationDue, .control] s s.restartOff :=
  (restartCleared_frame s).andThen (restartOff_frame s) (by decide) (by decide)

theorem restartOff_slot (s : State) (n : Slot) : s.restartOff.slot n = (s.slot n).switchedOff := by
  rw [State.restartOff, restarted_slot, (restartCleared_frame s).slot n]

theorem restartOff_queue (s : State) (n : Slot) : s.restartOff.queue n = [] := by
  rw [(restartOff_frame s).queue n, (restartAborted_frame s).queue n, restartAborted_queue]

theorem restartOff_responses (s : State) :
    s.restartOff.responses = s.responses ++ allSlots.flatMap s.abortedResponses := by
  rw [← ((restartOff_frame s) .responses (by decide) : State.responses _ = State.responses _),
    ← ((restartAborted_frame s) .responses (by decide) : State.responses _ = State.responses _), restartAborted_responses]

theorem restartOff_prefix (s : State) : s.restartNotices.notices <+: s.restartOff.notices := by
  have h : s.restartCleared.notices <+: s.restartOff.notices := foldl_prefix restartSlot_prefix allSlots s.restartCleared
  rw [← ((restartAborted_frame s) .notices (by decide) : State.notices _ = State.notices _)] at h
  exact (restartAborted_prefix s).trans h

/-- The responses of a restart: what a requester waits for, slot by slot in queue order, ABORTED (R92). -/
theorem abortedResponses_all (s : State) : allSlots.flatMap s.abortedResponses =
    (allSlots.flatMap (fun n => (s.queue n).filter (fun x => x.owner != .attention && x.op != .writePosted))).map
      (fun x => .record { x with
        state := .done, deadline := none, status := some .aborted, readData := if x.op = .read then none else x.readData }) := by
  rw [List.map_flatMap]
  refine List.flatMap_congr (fun n _ => ?_)
  exact flatMap_handedOn (by decide) (s.queue n)

/-- READY is the first notice behind those in transmission (R163, R171). -/
theorem restartOff_ready (s : State) (h : s.noticesInTransmission ≤ s.notices.length) :
    (s.restartOff.notices.drop s.noticesInTransmission).head? = some { s.blankNotice .ready with cause := some (.ready .restart) } := by
  have hk : s.noticesInTransmission ≤ 1 := by
    unfold State.noticesInTransmission
    split <;> omega
  have hlen : (s.notices.take s.noticesInTransmission).length = s.noticesInTransmission := by
    rw [List.length_take]; omega
  have hready : s.restartNotices.notices = s.notices.take s.noticesInTransmission ++
      [{ s.blankNotice .ready with cause := some (.ready .restart) }] := by
    unfold State.restartNotices
    rw [raise_room _ _ (by show (s.notices.take s.noticesInTransmission).length < 32; omega)]
  obtain ⟨more, hmore⟩ := restartOff_prefix s
  rw [← hmore, hready, List.append_assoc]
  have hd := List.drop_left (l₁ := s.notices.take s.noticesInTransmission)
    (l₂ := [{ s.blankNotice .ready with cause := some (.ready .restart) }] ++ more)
  rw [hlen] at hd
  rw [hd]
  rfl

theorem restartRest_frame (s : State) (c : Taken) : Unchanged [.slots, .useOrder, .wake, .evictionSet, .joinCounter, .shedding,
    .committed, .evaluationDue, .passDue, .attention, .restart, .stopped, .taking, .immediate, .responses] s (s.restartRest c) := by
  intro f hf; cases f <;> first | rfl | exact absurd (by decide) hf

theorem restarted_state (r : SlotRecord) :
    r.switchedOff.restarted.state = if r.state = .faulted then .faulted else .off := by
  cases h : r.state <;> simp [SlotRecord.switchedOff, SlotRecord.restarted, SlotState.powered, SlotRecord.changed, h]

theorem restarted_pin (r : SlotRecord) :
    r.switchedOff.restarted.pin = if r.state = .faulted then r.pin else false := by
  cases h : r.state <;> simp [SlotRecord.switchedOff, SlotRecord.restarted, SlotState.powered, SlotRecord.changed, h]

theorem restartRest_responses (s : State) (c : Taken) : (s.restartRest c).responses = s.responses ++ [.immediate c.entry] := rfl

theorem restartRest_immediate (s : State) (c : Taken) : (s.restartRest c).immediate = s.immediate.set c.entry
    (.ready { requester := c.requester, tag := c.tag, status := .ok, contents := [] }) := rfl

theorem restartRest_att (s : State) (c : Taken) (n : Slot) : (s.restartRest c).att n = AttentionRecord.reset := by
  simp [State.restartRest, State.respond, State.att]

theorem restartCompletion_run {entry : Fin 16} {r : Requester} {tag : Byte} (hrun : s.running = true)
    (hw : s.restart = .waiting entry r tag) (hx : s.exchange = none) : exec .restartCompletion s =
      .next (s.restartOff.restartRest { entry := entry, requester := r, tag := tag }) := by
  have hexec : exec .restartCompletion s = .next (match s.running && s.exchange.isNone, s.restart with
    | true, .waiting entry requester tag => s.completeRestart { entry := entry, requester := requester, tag := tag }
    | _, _ => s) := rfl
  rw [hexec, hrun, hw, hx]
  rfl

/-- Settles O36: the first three steps by their folds over the slots, the others by the fields they set. -/
theorem restartCompletionClearsTheHub : Obligations.RestartCompletionClearsTheHub := by
  intro entry r tag s hrun hw hx
  have ftot := restartOff_total s
  have frest := restartRest_frame s.restartOff { entry := entry, requester := r, tag := tag }
  refine ⟨_, restartCompletion_run hrun hw hx, rfl, rfl, rfl, fun n => ⟨?_, ?_, ?_, ?_, ?_⟩, rfl, rfl, rfl, rfl, rfl, ?_, rfl, ?_, ?_,
    fun h => ?_, ?_⟩
  · rw [restartRest_slot, restartOff_slot, restarted_state]
  · rw [restartRest_slot]; rfl
  · rw [restartRest_slot, restartOff_slot, restarted_pin]
  · rw [frest.queue n]; exact restartOff_queue s n
  · rw [restartRest_att]; rfl
  · rw [← (frest .claims (by decide) : State.claims _ = State.claims _),
      ← ((restartOff_frame s) .claims (by decide) : State.claims _ = State.claims _)]
    rfl
  · rw [restartRest_responses, restartOff_responses, abortedResponses_all]
  · rw [restartRest_immediate, ← (ftot .immediate (by decide) : s.immediate = _)]
  · rw [← (frest .notices (by decide) : State.notices _ = State.notices _), restartOff_ready s h]
    rfl
  · exact ftot.andThen frest (by decide) (by decide)

end Sys2Proof.Machine
end

section
/-! EVALUATION: the grant of the head, and the evaluation that begins again (R40 to R43). -/

set_option Elab.async false

namespace Sys2Proof.Machine

variable {s t u : State} {n : Slot}

/-! ## Due marks that an operation does not read -/

/-- The state with both due marks as given. -/
def State.dues (s : State) (e p : Bool) : State := { s with evaluationDue := e, passDue := p }

theorem ite_dues {p : Prop} [Decidable p] {a b a' b' : State} {e q : Bool} (h1 : a' = a.dues e q) (h2 : b' = b.dues e q) :
    (if p then a' else b') = (if p then a else b).dues e q := by
  split
  · exact h1
  · exact h2

theorem raise_dues (s : State) (e p : Bool) (x : Notice) : (s.dues e p).raise x = (s.raise x).dues e p := ite_dues rfl rfl

theorem reportChange_dues (s : State) (e p : Bool) (n : Slot) (new : SlotState) (x : List Byte) :
    (s.dues e p).reportChange n new x = (s.reportChange n new x).dues e p := ite_dues (raise_dues s e p _) rfl

theorem askControl_dues (s : State) (e p : Bool) (n : Slot) (c : ChainCommand) :
    (s.dues e p).askControl n c = (s.askControl n c).dues e p := ite_dues rfl rfl

theorem loadPoll_dues (s : State) (e p : Bool) (n : Slot) (q : StepPurpose) (ms : Nat) :
    (s.dues e p).loadPoll n q ms = (s.loadPoll n q ms).dues e p := ite_dues rfl (ite_dues (askControl_dues s e p n _) rfl)

/-- The changes of a slot's state before its release and its part in an eviction (R18, R25, R106). -/
def State.changedSlot (s : State) (n : Slot) (new : SlotState) (x : List Byte) : State :=
  { (s.reportChange n new x).setSlot n ((s.slot n).changed new) with
    useOrder := useOrderAfter (s.reportChange n new x).useOrder n (s.slot n).state new
    control := (s.reportChange n new x).control.filter (fun c => c.slot != n) }

theorem changedSlot_dues (s : State) (e p : Bool) (n : Slot) (new : SlotState) (x : List Byte) :
    (s.dues e p).changedSlot n new x = (s.changedSlot n new x).dues e p := by
  unfold State.changedSlot
  rw [reportChange_dues]
  rfl

theorem changeState_eq (s : State) (n : Slot) (new : SlotState) (x : List Byte) : s.changeState n new x =
    if new = .slumber ∨ new = .off ∨ new = .faulted then
      ((s.changedSlot n new x).release (s.slot n).charge ((s.slot n).changed new).charge).leaveEvictionSet n
    else (s.changedSlot n new x).release (s.slot n).charge ((s.slot n).changed new).charge := rfl

theorem changeState_unreleased {new : SlotState} (hc : (s.slot n).charge ≤ ((s.slot n).changed new).charge)
    (hn : ¬ (new = .slumber ∨ new = .off ∨ new = .faulted)) (x : List Byte) : s.changeState n new x = s.changedSlot n new x := by
  rw [changeState_eq, if_neg hn]
  exact if_neg (not_lt.mpr hc)

/-- The slot record with the weights of its profile (R5). -/
def State.weighed (s : State) (n : Slot) : State :=
  s.setSlot n { s.slot n with grantedAwake := (s.profile n).power.awake, grantedStandby := (s.profile n).power.standby }

/-- The countdowns of a power-up grant (R5, R6). -/
def State.poweringUp (s : State) (n : Slot) (w : PowerFields) : State :=
  (s.setSlot n { s.slot n with limit := some w.powerUpTimeout }).loadPoll n .powerUpDelay w.powerUpDelay

/-- The weights, the countdown and the exchange of a wake grant (R9). -/
def State.wakingUp (s : State) (n : Slot) (w : PowerFields) : State :=
  (s.setSlot n { s.slot n with
    grantedAwake := w.awake, grantedStandby := w.standby, limit := some w.wakeTimeout }).askControl n .wake

theorem poweringUp_dues (s : State) (e p : Bool) (n : Slot) (w : PowerFields) :
    (s.dues e p).poweringUp n w = (s.poweringUp n w).dues e p :=
  loadPoll_dues (s.setSlot n { s.slot n with limit := some w.powerUpTimeout }) e p n .powerUpDelay w.powerUpDelay

theorem wakingUp_dues (s : State) (e p : Bool) (n : Slot) (w : PowerFields) :
    (s.dues e p).wakingUp n w = (s.wakingUp n w).dues e p :=
  askControl_dues (s.setSlot n { s.slot n with
    grantedAwake := w.awake, grantedStandby := w.standby, limit := some w.wakeTimeout }) e p n .wake

theorem powerUpGrant_eq (h : (s.slot n).state = .off) :
    s.powerUpGrant n = ((s.weighed n).changedSlot n .powering []).poweringUp n (s.profile n).power := by
  have hw : ((s.weighed n).slot n).state = .off := by rw [State.weighed, setSlot_slot_self]; exact h
  have hc := changeState_unreleased (s := s.weighed n) (n := n) (new := .powering) (by simp [SlotRecord.charge, hw]) (by decide) []
  rw [← hc]
  rfl

theorem wakeGrant_eq (h : (s.slot n).state = .slumber) (hg : (s.slot n).grantedStandby ≤ (s.slot n).grantedAwake) :
    s.wakeGrant n = (s.changedSlot n .waking []).wakingUp n (s.profile n).power := by
  have hc := changeState_unreleased (s := s) (n := n) (new := .waking)
    (by simpa [SlotRecord.charge, SlotRecord.changed, h] using hg) (by decide) []
  rw [← hc]
  rfl

theorem powerUpGrant_dues (h : (s.slot n).state = .off) (e p : Bool) :
    (s.dues e p).powerUpGrant n = (s.powerUpGrant n).dues e p := by
  have hw : (s.dues e p).weighed n = (s.weighed n).dues e p := rfl
  have hd : (s.dues e p).profile n = s.profile n := rfl
  rw [powerUpGrant_eq (s := s.dues e p) h, powerUpGrant_eq h, hw, hd, changedSlot_dues]
  exact poweringUp_dues _ e p n _

theorem wakeGrant_dues (h : (s.slot n).state = .slumber) (hg : (s.slot n).grantedStandby ≤ (s.slot n).grantedAwake) (e p : Bool) :
    (s.dues e p).wakeGrant n = (s.wakeGrant n).dues e p := by
  have hd : (s.dues e p).profile n = s.profile n := rfl
  rw [wakeGrant_eq (s := s.dues e p) h hg, wakeGrant_eq h hg, hd, changedSlot_dues]
  exact wakingUp_dues _ e p n _

/-! ## Grants -/

theorem resting_cases {st : SlotState} (h : st.resting = true) : st = .off ∨ st = .slumber := by
  cases st <;> first | exact Or.inl rfl | exact Or.inr rfl | exact Bool.noConfusion h

theorem standby_le (hg : s.grantsSound) (h : (s.slot n).state = .slumber) :
    (s.slot n).grantedStandby ≤ (s.slot n).grantedAwake := by
  obtain ⟨hle, hgr⟩ := hg n
  obtain ⟨h1, h2⟩ := hgr (by rw [h]; rfl)
  rw [h1, h2]; exact hle

/-- What a grant to a resting slot can change. -/
abbrev grantFields : List Field := [.slots, .committed, .wake, .control, .notices, .lostCount, .firstLoss]

theorem grant_frame_resting (hg : s.grantsSound) (hr : (s.slot n).state.resting = true) :
    Unchanged grantFields s (s.grant n) := by
  have fs := grantStart_frame s n
  rcases resting_cases hr with h | h
  · rw [grant_of_off h]
    exact fs.andThen (powerUpGrant_frame (s.grantStart n) n h) (by decide) (by decide)
  · rw [grant_of_slumber h]
    exact fs.andThen (wakeGrant_frame (s.grantStart n) n h (standby_le hg h)) (by decide) (by decide)

theorem grant_onlySlot (s : State) (n : Slot) : OnlySlot n s (s.grant n) := by
  have hs : OnlySlot n s (s.grantStart n) :=
    (grantStart_frame s n).onlySlot n (by decide) (by decide) (by decide) (by decide)
  by_cases hr : (s.slot n).state.resting = true
  · rcases resting_cases hr with h | h
    · rw [grant_of_off h]; exact hs.trans (powerUpGrant_onlySlot _ n)
    · rw [grant_of_slumber h]; exact hs.trans (wakeGrant_onlySlot _ n)
  · rw [grant_of_notResting (by simpa using hr)]; exact hs

/-- What any grant can change. -/
theorem grant_frame (s : State) (n : Slot) : Unchanged [.slots, .useOrder, .committed, .wake, .evictionSet, .evaluationDue, .control,
    .notices, .lostCount, .firstLoss] s (s.grant n) := by
  have fs := grantStart_frame s n
  by_cases hr : (s.slot n).state.resting = true
  · rcases resting_cases hr with h | h
    · rw [grant_of_off h]
      exact (fs.mono (by decide)).trans ((powerUpGrant_frame (s.grantStart n) n h).mono (by decide))
    · rw [grant_of_slumber h]
      dsimp only [State.wakeGrant]
      exact ((fs.mono (by decide)).trans (((changeState_frame _ n .waking []).mono (by decide)).trans
        ((setSlot_frame _ n _).mono (by decide)))).trans ((askControl_frame _ n _).mono (by decide))
  · rw [grant_of_notResting (by simpa using hr)]
    exact fs.mono (by decide)

theorem grant_wake (s : State) (n : Slot) : (s.grant n).wake = s.wake.filter (fun e => e.slot != n) := by
  by_cases hr : (s.slot n).state.resting = true
  · rcases resting_cases hr with h | h
    · rw [grant_of_off h, ← (powerUpGrant_frame (s.grantStart n) n h .wake (by decide) : State.wake _ = State.wake _)]
      rfl
    · rw [grant_of_slumber h]
      dsimp only [State.wakeGrant]
      rw [← ((askControl_frame _ n _) .wake (by decide) : State.wake _ = State.wake _)]
      exact ((changeState_frame (s.grantStart n) n .waking []) .wake (by decide) : State.wake _ = State.wake _).symm
  · rw [grant_of_notResting (by simpa using hr)]
    rfl

theorem grant_committed (hg : s.grantsSound) (hr : (s.slot n).state.resting = true) :
    (s.grant n).committed = s.committed + s.increment n := by
  rcases resting_cases hr with h | h
  · rw [grant_of_off h]
    exact (powerUpGrant_frame (s.grantStart n) n h .committed (by decide) : State.committed _ = State.committed _).symm
  · rw [grant_of_slumber h]
    exact (wakeGrant_frame (s.grantStart n) n h (standby_le hg h) .committed (by decide) :
      State.committed _ = State.committed _).symm

/-- The state without a due evaluation. -/
def State.undue (s : State) : State := { s with evaluationDue := false }

theorem undue_frame (s : State) : Unchanged [.evaluationDue] s s.undue := by
  intro f hf; cases f <;> first | rfl | exact absurd (by decide) hf

/-- A grant neither reads nor makes due an evaluation. -/
theorem grant_undue (hg : s.grantsSound) (hr : (s.slot n).state.resting = true) : s.undue.grant n = (s.grant n).undue := by
  have hpass : (s.grantStart n).passDue = (s.grant n).passDue :=
    (grant_frame_resting hg hr) .passDue (by decide)
  have hundue : (s.grant n).undue = (s.grant n).dues false (s.grantStart n).passDue := by
    rw [hpass]; rfl
  rw [hundue]
  rcases resting_cases hr with h | h
  · rw [grant_of_off (s := s.undue) h, grant_of_off h]
    exact powerUpGrant_dues (s := s.grantStart n) h false _
  · rw [grant_of_slumber (s := s.undue) h, grant_of_slumber h]
    exact wakeGrant_dues (s := s.grantStart n) h (standby_le hg h) false _

/-! ## The steps of an evaluation -/

theorem evaluate_succ (fuel : Nat) (s : State) : State.evaluate (fuel + 1) s =
    match s.eligibleOrder with
    | [] => s
    | head :: others =>
      if s.fits head then State.evaluate fuel (s.grant head.slot)
      else if s.evictionSet ≠ [] then s
      else match s.evictionPrefix head with
        | some ns => ns.foldl State.evict { s with evictionSet := ns }
        | none =>
          if head.passed < s.budget.bypassAllowance then
            match others.find? s.fits with
            | some e => State.evaluate fuel ((s.countPass head.slot).grant e.slot)
            | none => s
          else s := rfl

theorem evaluate_none (fuel : Nat) (h : s.eligibleOrder = []) : State.evaluate fuel s = s := by
  cases fuel with
  | zero => rfl
  | succ fuel => rw [evaluate_succ, h]

theorem evaluate_fits (fuel : Nat) {e : WakeEntry} {behind : List WakeEntry} (h : s.eligibleOrder = e :: behind)
    (hf : s.fits e = true) : State.evaluate (fuel + 1) s = State.evaluate fuel (s.grant e.slot) := by
  rw [evaluate_succ, h]
  exact if_pos hf

theorem evaluate_evicting (fuel : Nat) {e : WakeEntry} {behind : List WakeEntry} (h : s.eligibleOrder = e :: behind)
    (hf : ¬ s.fits e = true) (hset : s.evictionSet ≠ []) : State.evaluate (fuel + 1) s = s := by
  rw [evaluate_succ, h]
  exact (if_neg hf).trans (if_pos hset)

theorem filter_lt_of_mem {l : List WakeEntry} {e : WakeEntry} (h : e ∈ l) :
    (l.filter (fun x => x.slot != e.slot)).length < l.length :=
  List.length_filter_lt_length_iff_exists.mpr ⟨e, h, by simp⟩

/-- Every grant of an evaluation removes an entry: fuel above the number of entries is not used up. -/
theorem evaluate_fuel : ∀ (fuel : Nat) (s : State), s.wake.length < fuel → State.evaluate (fuel + 1) s = State.evaluate fuel s
  | 0, _, h => absurd h (Nat.not_lt_zero _)
  | fuel + 1, s, h => by
    rw [evaluate_succ (fuel + 1), evaluate_succ fuel]
    cases hel : s.eligibleOrder with
    | nil => rfl
    | cons head others =>
      have hmem : ∀ e ∈ head :: others, e ∈ s.wake := fun e he => mem_eligibleOrder (by rw [hel]; exact he)
      have hgrant : State.evaluate (fuel + 1) (s.grant head.slot) = State.evaluate fuel (s.grant head.slot) := by
        refine evaluate_fuel fuel _ ?_
        rw [grant_wake]
        have := filter_lt_of_mem (hmem head List.mem_cons_self)
        omega
      have hbypass : ∀ e ∈ others, State.evaluate (fuel + 1) ((s.countPass head.slot).grant e.slot) =
          State.evaluate fuel ((s.countPass head.slot).grant e.slot) := fun e he => by
        refine evaluate_fuel fuel _ ?_
        rw [grant_wake]
        have hlen : (s.countPass head.slot).wake.length = s.wake.length := by simp [State.countPass]
        have hex : ((s.countPass head.slot).wake.filter (fun x => x.slot != e.slot)).length < (s.countPass head.slot).wake.length :=
          List.length_filter_lt_length_iff_exists.mpr ⟨_, List.mem_map_of_mem (hmem e (List.mem_cons_of_mem head he)), by
            split <;> simp⟩
        omega
      dsimp only
      rw [hgrant]
      split
      · rfl
      · split
        · rfl
        · split
          · rfl
          · split
            · split
              · rename_i e he
                exact hbypass e (List.mem_of_find?_eq_some he)
              · rfl
            · rfl

theorem evaluate_enough {k : Nat} (hk : s.wake.length < k) : ∀ fuel, k ≤ fuel → State.evaluate fuel s = State.evaluate k s := by
  refine Nat.le_induction rfl (fun m hm ih => ?_)
  rw [evaluate_fuel m s (by omega), ih]

/-! ## What an evaluation leaves alone -/

theorem startDrain_claimsSound_any (h : s.claimsSound) (n : Slot) (c : DrainCause) (m : RestMode) : (s.startDrain n c m).claimsSound := by
  have f : Unchanged [.slots, .useOrder, .committed, .evictionSet, .evaluationDue, .control, .notices, .lostCount, .firstLoss] s
      (s.drainBegun n c m) := (changeState_frame s n .draining _).andThen (setSlot_frame _ n _) (by decide) (by decide)
  rw [startDrain_eq]
  exact towardsRest_claimsSound (f.claimsSound h) n

theorem evict_claimsSound (h : s.claimsSound) (n : Slot) : (s.evict n).claimsSound := by
  unfold State.evict
  split
  · exact (convertDrain_frame s n _).claimsSound h
  · exact startDrain_claimsSound_any h n _ _

/-- An evaluation leaves shedding and the law of the claims. -/
def Arbitrated (s t : State) : Prop := t.sheds = s.sheds ∧ (s.claimsSound → t.claimsSound)

theorem Arbitrated.refl (s : State) : Arbitrated s s := ⟨rfl, id⟩

theorem Arbitrated.trans (h : Arbitrated s t) (k : Arbitrated t u) : Arbitrated s u := ⟨k.1.trans h.1, k.2 ∘ h.2⟩

theorem grant_arbitrated (s : State) (n : Slot) : Arbitrated s (s.grant n) :=
  ⟨(grant_frame s n).sheds, fun h => (grant_frame s n).claimsSound h⟩

theorem evictAll_arbitrated : ∀ (ns : List Slot) (s : State), Arbitrated s (ns.foldl State.evict s)
  | [], s => Arbitrated.refl s
  | n :: ns, s => Arbitrated.trans ⟨(evict_frame s n).sheds, fun h => evict_claimsSound h n⟩ (evictAll_arbitrated ns _)

theorem countPass_frame (s : State) (n : Slot) : Unchanged [.wake] s (s.countPass n) := by
  intro f hf; cases f <;> first | rfl | exact absurd (by decide) hf

theorem evaluate_arbitrated : ∀ (fuel : Nat) (s : State), Arbitrated s (State.evaluate fuel s)
  | 0, s => Arbitrated.refl s
  | fuel + 1, s => by
    rw [evaluate_succ]
    split
    · exact Arbitrated.refl s
    · split
      · exact (grant_arbitrated s _).trans (evaluate_arbitrated fuel _)
      · split
        · exact Arbitrated.refl s
        · split
          · rename_i ns _
            have f := setEvictionSet_frame s ns
            exact Arbitrated.trans ⟨f.sheds, fun h => f.claimsSound h⟩ (evictAll_arbitrated _ _)
          · split
            · split
              · have f := countPass_frame s
                exact (Arbitrated.trans ⟨(f _).sheds, fun h => (f _).claimsSound h⟩ (grant_arbitrated _ _)).trans
                  (evaluate_arbitrated fuel _)
              · exact Arbitrated.refl s
            · exact Arbitrated.refl s

/-! ## The event -/

theorem evaluation_run (hrun : s.running = true) (hdue : s.evaluationDue = true) (hsh : s.sheds = false)
    (hre : s.restarting = false) :
    exec .evaluation s = .next (s.finish (State.evaluate (s.wake.length + 1) s.undue)) := by
  have hopen : s.evaluationOpen = true := by simp [State.evaluationOpen, hrun, hdue, hsh, hre]
  have hexec : exec .evaluation s = event s.evaluationOpen s
      (fun s => State.evaluate (s.wake.length + 1) { s with evaluationDue := false }) := rfl
  rw [hexec, hopen, event_due]
  rfl

theorem newCandidate_congr (h : ∀ k, s.candidate k = u.candidate k ∧ (s.slot k).idleDraining = (u.slot k).idleDraining) (t : State) :
    newCandidate s t = newCandidate u t := by
  simp only [newCandidate, (h _).1, (h _).2]

theorem finish_undue (hcl : s.claimsSound) (hsh : s.sheds = false) : s.finish s.undue = s.undue := by
  have f := undue_frame s
  rw [finish_notShedding (f.claimsSound hcl) (f.sheds.trans hsh), newCandidate_same s s.undue (fun _ h => h) (fun _ h => h)]
  rfl

/-- A resting slot and the same slot after its grant are no candidates: grants change no slot's candidacy. -/
theorem grant_candidates (hg : s.grantsSound) (hr : (s.slot n).state.resting = true) (k : Slot) :
    s.candidate k = (s.grant n).candidate k ∧ (s.slot k).idleDraining = ((s.grant n).slot k).idleDraining := by
  have hx : s.exchange = (s.grant n).exchange := (grant_frame_resting hg hr) .exchange (by decide)
  by_cases hk : k = n
  · subst hk
    have hbefore : (s.slot k).state ≠ .awake ∧ (s.slot k).state ≠ .draining := by
      rcases resting_cases hr with h | h <;> rw [h] <;> exact ⟨SlotState.noConfusion, SlotState.noConfusion⟩
    have hafter : ((s.grant k).slot k).state ≠ .awake ∧ ((s.grant k).slot k).state ≠ .draining := by
      rcases resting_cases hr with h | h
      · have ha := (powerUpGrant_alike (s.grantStart k) k).1
        rw [grant_of_off h, ha]; exact ⟨SlotState.noConfusion, SlotState.noConfusion⟩
      · have ha := (wakeGrant_alike (s.grantStart k) k).1
        rw [grant_of_slumber h, ha]; exact ⟨SlotState.noConfusion, SlotState.noConfusion⟩
    have i1 := not_idleDraining_of_state hbefore.2
    have i2 := not_idleDraining_of_state hafter.2
    exact ⟨(not_candidate_of_state hbefore.1 i1).trans (not_candidate_of_state hafter.1 i2).symm, i1.trans i2.symm⟩
  · obtain ⟨h1, h2, h3, -⟩ := grant_onlySlot s n k hk
    refine ⟨?_, by rw [h1]⟩
    simp only [State.candidate, State.idleSlot, State.inFlight, h1, h2, h3, hx]

/-- The entries left after a grant are those of the other slots, in the same order. -/
theorem grant_eligibleOrder (s : State) (n : Slot) :
    (s.grant n).eligibleOrder = s.eligibleOrder.filter (fun e => e.slot != n) := by
  have f := grant_frame s n
  have hel : (s.grant n).eligible = s.eligible := funext fun e => by
    rw [State.eligible, State.eligible, f.profile e.slot, (f .budget (by decide) : s.budget = _)]
  simp only [State.eligibleOrder, State.arbiterOrder, grant_wake, hel, List.filter_append, List.filter_filter]
  congr 1 <;> exact List.filter_congr (fun e _ => by
    cases s.eligible e <;> cases (e.slot != n) <;> simp)

/-- Settles O37, the grant: its fields by `powerUpGrant_slot` and `wakeGrant_slot`. -/
theorem grant_granted (hre : s.restarting = false) (hst : s.stopped = false) :
    ((s.slot n).state = .off →
      (s.grant n).slot n = { (s.slot n).granted .powering (s.profile n).power with
        limit := some (s.profile n).power.powerUpTimeout
        step := if (s.profile n).power.powerUpDelay = 0 then none
          else some { purpose := .powerUpDelay, ms := (s.profile n).power.powerUpDelay } } ∧
      (s.grant n).control = s.control.filter (fun x => x.slot != n) ++
        (if (s.profile n).power.powerUpDelay = 0 then [{ slot := n, command := .identify }] else [])) ∧
    ((s.slot n).state = .slumber →
      (s.grant n).slot n = { (s.slot n).granted .waking (s.profile n).power with limit := some (s.profile n).power.wakeTimeout } ∧
      (s.grant n).control = s.control.filter (fun x => x.slot != n) ++ [{ slot := n, command := .wake }]) := by
  refine ⟨fun h => ?_, fun h => ?_⟩
  · rw [grant_of_off h]
    exact ⟨powerUpGrant_slot (s.grantStart n) n hre, powerUpGrant_control (s.grantStart n) n hre hst⟩
  · rw [grant_of_slumber h]
    exact ⟨wakeGrant_slot (s.grantStart n) n, wakeGrant_control (s.grantStart n) n hst⟩

/-- Settles O37: the grant's fields by `grant_granted`, and the evaluation that begins again by the fuel that is not used up. -/
theorem evaluationGrantsTheHead : Obligations.EvaluationGrantsTheHead := by
  intro e behind s hrun hdue hsh hre hst hcl hg hel
  have hel' : s.undue.eligibleOrder = e :: behind := hel
  have hels : s.eligibleOrder = e :: behind := hel
  have hrun' := evaluation_run hrun hdue hsh hre
  refine ⟨fun hr hfit => ?_, fun hbig hset => ?_⟩
  · have hfits : s.undue.fits e = true := decide_eq_true hfit
    have hfr := grant_frame_resting hg hr
    have hmem : e ∈ s.wake := mem_eligibleOrder (by rw [hels]; exact List.mem_cons_self)
    have hlen : (s.grant e.slot).wake.length < s.wake.length := by
      rw [grant_wake]; exact filter_lt_of_mem hmem
    have hev : State.evaluate (s.wake.length + 1) s.undue = State.evaluate s.wake.length (s.grant e.slot).undue := by
      rw [evaluate_fits _ hel' hfits, grant_undue hg hr]
    obtain ⟨hoff, hslumber⟩ := grant_granted (n := e.slot) hre hst
    refine ⟨grant_committed hg hr, grant_wake s e.slot, hoff, hslumber, grant_onlySlot s e.slot, hfr, ⟨_, hrun', ?_⟩, fun hb => ?_⟩
    · have hgrun := evaluation_run (s := s.grant e.slot) ?_ ((hfr .evaluationDue (by decide) : _ = State.evaluationDue _).symm.trans hdue)
        (hfr.sheds.trans hsh) (hfr.restarting.trans hre)
      · obtain ⟨hsheds, hclaims⟩ := evaluate_arbitrated ((s.grant e.slot).wake.length + 1) (s.grant e.slot).undue
        have hclg : (s.grant e.slot).undue.claimsSound := (undue_frame _).claimsSound (hfr.claimsSound hcl)
        have hshg : (s.grant e.slot).undue.sheds = false := (undue_frame _).sheds.trans (hfr.sheds.trans hsh)
        rw [hgrun, hev, evaluate_enough (s := (s.grant e.slot).undue) (k := (s.grant e.slot).wake.length + 1) (Nat.lt_succ_self _)
          s.wake.length hlen, finish_notShedding (hclaims hclg) (hsheds.trans hshg),
          finish_notShedding (hclaims hclg) (hsheds.trans hshg), newCandidate_congr (grant_candidates hg hr)]
      · exact hfr.running.trans hrun
    · have hnone : (s.grant e.slot).undue.eligibleOrder = [] := by
        show (s.grant e.slot).eligibleOrder = []
        have hel0 : s.eligibleOrder = [e] := hel.trans (by rw [hb])
        rw [grant_eligibleOrder, hel0]
        simp
      have hclg : (s.grant e.slot).undue.claimsSound := (undue_frame _).claimsSound (hfr.claimsSound hcl)
      have hshg : (s.grant e.slot).undue.sheds = false := (undue_frame _).sheds.trans (hfr.sheds.trans hsh)
      have hnew : newCandidate s (s.grant e.slot).undue = false :=
        newCandidate_same s _ (fun k hk => (grant_candidates hg hr k).1.trans hk) (fun k hk => (grant_candidates hg hr k).2.trans hk)
      rw [hrun', hev, evaluate_none _ hnone, finish_notShedding hclg hshg, hnew]
      rfl
  · have hnot : ¬ s.undue.fits e = true := fun h => by
      have := fits_le (s := s) h
      have hbig' : s.effectiveLimit < s.committed + s.increment e.slot := hbig
      omega
    rw [hrun', evaluate_evicting _ hel' hnot hset, finish_undue hcl hsh]
    rfl

end Sys2Proof.Machine
end

section
/-! EVALUATION: the eviction of the shortest initial part that makes room (R44 to R46, R48, R49). -/

set_option Elab.async false

namespace Sys2Proof.Machine

variable {s t u : State} {n : Slot}

/-! ## The shortest initial part -/

/-- An initial part that makes up the need, while none of its shorter initial parts does, is the shortest (R45). -/
theorem shortestPrefix_minimal (r : Slot → Nat) : ∀ (ns rest : List Slot) (need : Nat), need ≤ (ns.map r).sum →
    (∀ k, k < ns.length → ¬ need ≤ ((ns.take k).map r).sum) → shortestPrefix r need (ns ++ rest) = some ns
  | [], rest, need, hsum, _ => by
    have h0 : need = 0 := Nat.le_zero.mp hsum
    rw [h0, shortestPrefix]
  | n :: ns, rest, need, hsum, hmin => by
    cases need with
    | zero => exact absurd (Nat.zero_le _) (hmin 0 (Nat.succ_pos _))
    | succ need =>
      have htail := shortestPrefix_minimal r ns rest (need + 1 - r n) (by simp only [List.map_cons, List.sum_cons] at hsum; omega)
        (fun k hk h => hmin (k + 1) (Nat.succ_lt_succ hk) (by
          simp only [List.take_succ_cons, List.map_cons, List.sum_cons]; omega))
      rw [List.cons_append, shortestPrefix, htail]
      rfl

/-- Where all together do not make up the need, there is no initial part (R48). -/
theorem shortestPrefix_none (r : Slot → Nat) : ∀ (l : List Slot) (need : Nat), (l.map r).sum < need →
    shortestPrefix r need l = none
  | l, 0, h => absurd h (Nat.not_lt_zero _)
  | [], need + 1, _ => rfl
  | n :: l, need + 1, h => by
    rw [shortestPrefix, shortestPrefix_none r l (need + 1 - r n) (by simp only [List.map_cons, List.sum_cons] at h; omega)]
    rfl

/-! ## Due evaluations are kept -/

/-- An evaluation that is due stays due. -/
def DueKept (s t : State) : Prop := s.evaluationDue = true → t.evaluationDue = true

theorem DueKept.trans (h : DueKept s t) (k : DueKept t u) : DueKept s u := k ∘ h

theorem DueKept.of_frame {a : List Field} (f : Unchanged a s t) (h : Field.evaluationDue ∉ a := by decide) : DueKept s t :=
  fun hd => (f .evaluationDue h : s.evaluationDue = _).symm.trans hd

theorem markEvaluation_dueKept (s : State) : DueKept s s.markEvaluation := fun h => by rw [markEvaluation_due, h]; rfl

theorem removeEntry_dueKept (s : State) (n : Slot) : DueKept s (s.removeEntry n) := by
  unfold State.removeEntry
  split
  · exact fun h => markEvaluation_dueKept _ h
  · exact id

theorem withdrawReason_dueKept (s : State) (n : Slot) (why : WakeReason) : DueKept s (s.withdrawReason n why) := by
  unfold State.withdrawReason
  split
  · exact id
  · split
    · exact removeEntry_dueKept s n
    · exact id

theorem attentionAtOff_dueKept (s : State) (n : Slot) : DueKept s (s.attentionAtOff n) := by
  unfold State.attentionAtOff
  dsimp only
  split
  · exact DueKept.of_frame (setAtt_frame s n _)
  · refine DueKept.trans ?_ (DueKept.of_frame (setAtt_frame _ n _))
    split
    · exact (DueKept.of_frame (setClaims_frame s _)).trans (DueKept.of_frame (raiseAttention_frame _ n _ _))
    · exact (withdrawReason_dueKept s n _).trans (DueKept.of_frame (raiseAttention_frame _ n _ _))
    · exact id
    · exact id
    · exact id

theorem changeState_dueKept (s : State) (n : Slot) (new : SlotState) (x : List Byte) : DueKept s (s.changeState n new x) := by
  intro h
  obtain ⟨b, hb⟩ := changeState_evaluationDue s n new x
  rw [hb, h]; rfl

theorem leaveEvictionSet_dueKept (s : State) (n : Slot) : DueKept s (s.leaveEvictionSet n) := by
  dsimp only [State.leaveEvictionSet]
  split
  · split
    · exact fun h => markEvaluation_dueKept _ h
    · exact id
  · exact id

/-- A release makes an evaluation due while shedding is inactive (R40). -/
theorem changeState_released (hsh : s.sheds = false) {new : SlotState} (hc : ((s.slot n).changed new).charge < (s.slot n).charge)
    (x : List Byte) : (s.changeState n new x).evaluationDue = true := by
  have hd : (s.changedSlot n new x).sheds = false := by
    have h : (s.changedSlot n new x).sheds = (s.reportChange n new x).sheds := rfl
    exact h.trans ((reportChange_frame s n new x).sheds.trans hsh)
  have hrel : ((s.changedSlot n new x).release (s.slot n).charge ((s.slot n).changed new).charge).evaluationDue = true := by
    have hd' : (State.sheds { s.changedSlot n new x with
        committed := (s.changedSlot n new x).committed - ((s.slot n).charge - ((s.slot n).changed new).charge) }) = false := hd
    rw [State.release, if_pos hc, markEvaluation_due, hd']
    simp
  rw [changeState_eq]
  split
  · exact leaveEvictionSet_dueKept _ n hrel
  · exact hrel

/-! ## One eviction -/

/-- The eviction of this candidate takes it to OFF in the event: it is AWAKE, and its rest is OFF (R45). -/
def State.toOff (s : State) (n : Slot) : Bool := (s.slot n).state == .awake && (s.profile n).power.restMode == .off

/-- A candidate as R44 finds it: AWAKE without a drain, or in an IDLE drain towards SLUMBER. -/
def State.evictable (s : State) (n : Slot) : Prop :=
  s.candidate n = true ∧ ((s.slot n).state = .awake ∧ (s.slot n).drain = none ∨
    (s.slot n).state = .draining ∧ (s.slot n).drain = some { cause := .idle, target := .slumber })

theorem candidate_iff (s : State) (n : Slot) : s.candidate n = true ↔
    ((s.slot n).state = .awake ∨ (s.slot n).idleDraining = true) ∧ s.queue n = [] ∧ s.inFlight n = false ∧
      (s.att n).phase ≠ .fetching ∧ (s.slot n).pin = false := by
  simp [State.candidate, State.idleSlot, and_assoc]

/-- What evictions can change. -/
abbrev evictionFields : List Field :=
  [.evaluationDue, .evictionSet, .slots, .useOrder, .committed, .attention, .claims, .wake, .control, .notices, .lostCount,
    .firstLoss]

/-- What an eviction towards SLUMBER can change. -/
abbrev drainFields : List Field := [.slots, .control, .notices, .lostCount, .firstLoss]

/-- The slot has been evicted to OFF, its charge released. -/
def EvictedOff (n : Slot) (s t : State) : Prop :=
  t.slot n = (s.slot n).inOff (s.slot n).failures ∧ (t.att n).sensing = false ∧ (t.att n).lastLevel = none ∧
    (t.att n).senseRead = none ∧ ((s.slot n).grantedAwake ≠ 0 → t.evaluationDue = true)

/-- The slot drains towards SLUMBER in an eviction. -/
def EvictedHeld (n : Slot) (t : State) : Prop :=
  (t.slot n).state = .draining ∧ (t.slot n).drain = some { cause := .evict, target := .slumber }

/-- A drain of an idle unpinned slot towards OFF gains no reason at rest (R16). -/
theorem startDrain_off_idle (c : DrainCause) (hq : s.queue n = []) (hp : (s.slot n).pin = false) (hf : s.inFlight n = false) :
    s.startDrain n c .off = ((s.drainBegun n c .off).changeState n .off []).attentionAtOff n := by
  have fd : Unchanged [.slots, .useOrder, .committed, .evictionSet, .evaluationDue, .control, .notices, .lostCount, .firstLoss] s
      (s.drainBegun n c .off) := (changeState_frame s n .draining _).andThen (setSlot_frame _ n _) (by decide) (by decide)
  have fc := changeState_frame (s.drainBegun n c .off) n .off []
  have fa := attentionAtOff_frame ((s.drainBegun n c .off).changeState n .off []) n
  have hq' : (((s.drainBegun n c .off).changeState n .off []).attentionAtOff n).queue n = [] :=
    (fa.queue n).trans ((fc.queue n).trans ((fd.queue n).trans hq))
  have hp' : ((((s.drainBegun n c .off).changeState n .off []).attentionAtOff n).slot n).pin = false := by
    rw [fa.slot n, changeState_slot_self, drainBegun_slot]; exact hp
  rw [startDrain_off c hf]
  show (((s.drainBegun n c .off).changeState n .off []).attentionAtOff n).gainAtRest n _ = _
  simp [State.gainAtRest, hq', hp']

theorem evict_off (h : s.evictable n) (ho : s.toOff n = true) (hsh : s.sheds = false) :
    EvictedOff n s (s.evict n) ∧ (s.evict n).evictionSet = s.evictionSet.filter (· != n) ∧
    (s.evict n).committed = s.committed - (s.slot n).grantedAwake ∧ (s.evict n).useOrder = s.useOrder.filter (· != n) ∧
    DueKept s (s.evict n) ∧ Unchanged evictionFields s (s.evict n) := by
  obtain ⟨hcand, -⟩ := h
  obtain ⟨-, hq, hf, -, hp⟩ := (candidate_iff s n).mp hcand
  simp only [State.toOff, Bool.and_eq_true, beq_iff_eq] at ho
  obtain ⟨hs, hm⟩ := ho
  have hev : s.evict n = s.startDrain n .evict .off := by
    rw [State.evict, if_neg (by rw [hs]; exact SlotState.noConfusion), hm]
  obtain ⟨hslot, hcom, -, horder, -, hset, -, hsense, hlast, hread, -, -⟩ := startDrain_off_entered hs .evict hf
  have hidle := startDrain_off_idle .evict hq hp hf
  have fd := drainBegun_frame hs .evict .off
  have fc := changeState_frame (s.drainBegun n .evict .off) n .off []
  have fa := attentionAtOff_frame ((s.drainBegun n .evict .off).changeState n .off []) n
  have hcharge : (s.slot n).charge = (s.slot n).grantedAwake := by simp [SlotRecord.charge, hs]
  rw [hev]
  refine ⟨⟨hslot, hsense, hlast, hread, fun hne => ?_⟩, hset, hcharge ▸ hcom, horder, ?_, ?_⟩
  · rw [hidle]
    refine attentionAtOff_dueKept _ n (changeState_released (fd.sheds.trans hsh) ?_ [])
    rw [drainBegun_slot, charge_drained hs, hcharge]
    exact Nat.pos_of_ne_zero hne
  · rw [hidle]
    exact ((DueKept.of_frame fd).trans (changeState_dueKept _ n .off [])).trans (attentionAtOff_dueKept _ n)
  · rw [hidle]
    exact ((fd.mono (by decide)).trans (fc.mono (by decide))).trans (fa.mono (by decide))

theorem evict_held (h : s.evictable n) (ho : s.toOff n = false) :
    EvictedHeld n (s.evict n) ∧ Unchanged drainFields s (s.evict n) := by
  obtain ⟨hcand, ⟨hs, -⟩ | ⟨hs, hd⟩⟩ := h
  · have hm : (s.profile n).power.restMode = .slumber := by
      cases hm : (s.profile n).power.restMode with
      | slumber => rfl
      | off => simp [State.toOff, hs, hm] at ho
    have hev : s.evict n = s.startDrain n .evict .slumber := by
      rw [State.evict, if_neg (by rw [hs]; exact SlotState.noConfusion), hm]
    obtain ⟨hslot, -, hframe⟩ := startDrain_held hs .evict .slumber (Or.inr rfl)
    rw [hev]
    exact ⟨⟨by rw [hslot]; rfl, by rw [hslot]; rfl⟩, hframe⟩
  · have hev : s.evict n = s.convertDrain n .evict := if_pos hs
    have hslot : (s.convertDrain n .evict).slot n = { s.slot n with
        drain := (s.slot n).drain.map (fun d => { d with cause := .evict }) } := setSlot_slot_self s n _
    rw [hev]
    exact ⟨⟨by rw [hslot]; exact hs, by rw [hslot, hd]; rfl⟩, (convertDrain_frame s n .evict).mono (by decide)⟩

/-- An evicted slot is a candidate no more. -/
theorem EvictedOff.not_candidate (h : EvictedOff n s t) : t.candidate n = false ∧ (t.slot n).idleDraining = false := by
  obtain ⟨hslot, -⟩ := h
  have hid : (t.slot n).idleDraining = false := not_idleDraining_of_state (by rw [hslot]; exact SlotState.noConfusion)
  exact ⟨not_candidate_of_state (by rw [hslot]; exact SlotState.noConfusion) hid, hid⟩

theorem EvictedHeld.not_candidate (h : EvictedHeld n t) : t.candidate n = false ∧ (t.slot n).idleDraining = false := by
  obtain ⟨hs, hd⟩ := h
  have hid := idleDraining_drain hd (by decide)
  exact ⟨not_candidate_of_state (by rw [hs]; decide) hid, hid⟩

/-! ## The evictions of one event -/

/-- What the evictions of the slots `ns`, one after the other, make of the hub. -/
structure EvictedAll (ns : List Slot) (s t : State) : Prop where
  off : ∀ n ∈ ns, s.toOff n = true → EvictedOff n s t
  held : ∀ n ∈ ns, s.toOff n = false → EvictedHeld n t
  others : ∀ n, n ∉ ns → t.slot n = s.slot n
  att : ∀ n, n ∉ ns ∨ s.toOff n = false → t.att n = s.att n
  evictionSet : t.evictionSet = s.evictionSet.filter (fun n => !(ns.contains n && s.toOff n))
  committed : t.committed = s.committed - ((ns.filter s.toOff).map (fun n => (s.slot n).grantedAwake)).sum
  useOrder : t.useOrder = s.useOrder.filter (fun n => !(ns.contains n && s.toOff n))
  due : DueKept s t
  frame : Unchanged evictionFields s t
  frameHeld : ns.any s.toOff = false → Unchanged drainFields s t

theorem EvictedAll.nil (s : State) : EvictedAll [] s s :=
  ⟨fun _ h => absurd h List.not_mem_nil, fun _ h => absurd h List.not_mem_nil, fun _ _ => rfl, fun _ _ => rfl, by simp, by simp,
    by simp, id, Unchanged.refl _ s, fun _ => Unchanged.refl _ s⟩

/-- The slots that the evictions of `n :: ns` take out of a list: `n` first, and then those of `ns`. -/
theorem filter_evicted (l : List Slot) {ns : List Slot} (hn : n ∉ ns) {p q : Slot → Bool} (hpq : ∀ m, m ≠ n → q m = p m) :
    (if p n = true then l.filter (· != n) else l).filter (fun m => !(ns.contains m && q m)) =
      l.filter (fun m => !((n :: ns).contains m && p m)) := by
  have hpoint : ∀ m, m ≠ n → (!((n :: ns).contains m && p m)) = !(ns.contains m && q m) := fun m hm => by
    rw [hpq m hm, List.contains_cons, beq_false_of_ne hm, Bool.false_or]
  by_cases hp : p n = true
  · rw [if_pos hp, List.filter_filter]
    refine List.filter_congr (fun m _ => ?_)
    by_cases hm : m = n
    · subst hm; simp [hp]
    · rw [hpoint m hm, bne_iff_ne.mpr hm, Bool.and_true]
  · rw [if_neg hp]
    refine List.filter_congr (fun m _ => ?_)
    by_cases hm : m = n
    · subst hm; simp [hp, hn]
    · rw [hpoint m hm]

/-- One more eviction before those of `ns`. -/
theorem EvictedAll.cons {ns : List Slot} (hev : s.evictable n) (hsh : s.sheds = false) (hn : n ∉ ns)
    (h : EvictedAll ns (s.evict n) t) : EvictedAll (n :: ns) s t := by
  have honly := evict_onlySlot s n
  have hslot : ∀ m, m ≠ n → (s.evict n).slot m = s.slot m := fun m hm => (honly m hm).1
  have hatt : ∀ m, m ≠ n → (s.evict n).att m = s.att m := fun m hm => (honly m hm).2.1
  have htoOff : ∀ m, m ≠ n → (s.evict n).toOff m = s.toOff m := fun m hm => by
    obtain ⟨h1, -, -, h4⟩ := honly m hm
    rw [State.toOff, State.toOff, h1, h4]
  have hne : ∀ m ∈ ns, m ≠ n := fun m hm e => hn (e ▸ hm)
  have hstep : (s.toOff n = true → EvictedOff n s (s.evict n)) ∧ (s.toOff n = false → EvictedHeld n (s.evict n)) ∧
      (s.toOff n = false → (s.evict n).att n = s.att n) ∧
      (s.evict n).evictionSet = (if s.toOff n = true then s.evictionSet.filter (· != n) else s.evictionSet) ∧
      (s.evict n).committed = s.committed - (if s.toOff n = true then (s.slot n).grantedAwake else 0) ∧
      (s.evict n).useOrder = (if s.toOff n = true then s.useOrder.filter (· != n) else s.useOrder) ∧
      DueKept s (s.evict n) ∧ Unchanged evictionFields s (s.evict n) ∧
      (s.toOff n = false → Unchanged drainFields s (s.evict n)) := by
    by_cases ho : s.toOff n = true
    · obtain ⟨h1, h2, h3, h4, h5, h6⟩ := evict_off hev ho hsh
      rw [if_pos ho, if_pos ho, if_pos ho]
      exact ⟨fun _ => h1, fun h => absurd ho (by rw [h]; decide), fun h => absurd ho (by rw [h]; decide), h2, h3, h4, h5, h6,
        fun h => absurd ho (by rw [h]; decide)⟩
    · have ho' : s.toOff n = false := by simpa using ho
      obtain ⟨h1, hf⟩ := evict_held hev ho'
      rw [if_neg ho, if_neg ho, if_neg ho]
      exact ⟨fun h => absurd h ho, fun _ => h1, fun _ => hf.att n, (hf .evictionSet (by decide)).symm,
        (hf .committed (by decide)).symm, (hf .useOrder (by decide)).symm, DueKept.of_frame hf, hf.mono (by decide), fun _ => hf⟩
  obtain ⟨hoff, hheld, hattn, hset, hcom, horder, hdue, hframe, hframe'⟩ := hstep
  refine ⟨fun m hm ho => ?_, fun m hm ho => ?_, fun m hm => ?_, fun m hm => ?_, ?_, ?_, ?_, hdue.trans h.due,
    hframe.trans h.frame, fun hany => ?_⟩
  · rcases List.mem_cons.mp hm with rfl | hm'
    · obtain ⟨h1, h2, h3, h4, h5⟩ := hoff ho
      have ha := h.att m (Or.inl hn)
      exact ⟨(h.others m hn).trans h1, ha ▸ h2, ha ▸ h3, ha ▸ h4, fun hg => h.due (h5 hg)⟩
    · have hmn := hne m hm'
      have := h.off m hm' ((htoOff m hmn).trans ho)
      unfold EvictedOff at this ⊢
      rw [hslot m hmn] at this
      exact this
  · rcases List.mem_cons.mp hm with rfl | hm'
    · obtain ⟨h1, h2⟩ := hheld ho
      have hs := h.others m hn
      exact ⟨by rw [hs]; exact h1, by rw [hs]; exact h2⟩
    · exact h.held m hm' ((htoOff m (hne m hm')).trans ho)
  · obtain ⟨hmn, hms⟩ : m ≠ n ∧ m ∉ ns := by simpa using hm
    exact (h.others m hms).trans (hslot m hmn)
  · by_cases hmn : m = n
    · subst hmn
      exact (h.att m (Or.inl hn)).trans (hattn (hm.resolve_left (fun hx => hx List.mem_cons_self)))
    · refine (h.att m ?_).trans (hatt m hmn)
      exact hm.imp (fun hx hms => hx (List.mem_cons_of_mem n hms)) (fun ho => (htoOff m hmn).trans ho)
  · rw [h.evictionSet, hset, filter_evicted s.evictionSet hn htoOff]
  · have hfilter : ns.filter (s.evict n).toOff = ns.filter s.toOff :=
      List.filter_congr (fun m hm => htoOff m (hne m hm))
    have hmap : (ns.filter s.toOff).map (fun m => ((s.evict n).slot m).grantedAwake) =
        (ns.filter s.toOff).map (fun m => (s.slot m).grantedAwake) :=
      List.map_congr_left (fun m hm => by rw [hslot m (hne m (List.mem_of_mem_filter hm))])
    rw [h.committed, hcom, hfilter, hmap, List.filter_cons, Nat.sub_sub]
    split <;> simp
  · rw [h.useOrder, horder, filter_evicted s.useOrder hn htoOff]
  · simp only [List.any_cons, Bool.or_eq_false_iff] at hany
    refine (hframe' hany.1).trans (h.frameHeld ?_)
    exact List.any_eq_false.mpr (fun m hm => by rw [htoOff m (hne m hm)]; exact List.any_eq_false.mp hany.2 m hm)

theorem evictAll_evicted : ∀ (ns : List Slot) (s : State), ns.Nodup → (∀ n ∈ ns, s.evictable n) → s.sheds = false →
    EvictedAll ns s (ns.foldl State.evict s)
  | [], s, _, _, _ => EvictedAll.nil s
  | n :: ns, s, hd, hev, hsh => by
    obtain ⟨hn, hnd⟩ := List.nodup_cons.mp hd
    have hf := evict_frame s n
    refine EvictedAll.cons (hev n List.mem_cons_self) hsh hn
      (evictAll_evicted ns (s.evict n) hnd (fun m hm => ?_) (hf.sheds.trans hsh))
    have hmn : m ≠ n := fun e => hn (e ▸ hm)
    obtain ⟨h1, h2, h3, -⟩ := evict_onlySlot s n m hmn
    have hm' := hev m (List.mem_cons_of_mem n hm)
    unfold State.evictable at hm' ⊢
    rw [candidate_iff, h1, h2, h3, hf.inFlight m, ← candidate_iff]
    exact hm'

/-- Evictions make no slot a candidate. -/
theorem EvictedAll.newCandidate {ns : List Slot} (h : EvictedAll ns s t) : newCandidate s t = false := by
  have hin : ∀ k ∈ ns, t.candidate k = false ∧ (t.slot k).idleDraining = false := fun k hk => by
    cases ho : s.toOff k with
    | true => exact (h.off k hk ho).not_candidate
    | false => exact (h.held k hk ho).not_candidate
  refine newCandidate_same s t (fun k hc => ?_) (fun k hd => ?_)
  · by_cases hk : k ∈ ns
    · rw [(hin k hk).1] at hc; exact Bool.noConfusion hc
    · rw [candidate_iff, h.others k hk, h.att k (Or.inl hk), h.frame.queue k, h.frame.inFlight k, ← candidate_iff] at hc
      exact hc
  · by_cases hk : k ∈ ns
    · rw [(hin k hk).2] at hd; exact Bool.noConfusion hd
    · rw [h.others k hk] at hd; exact hd

/-! ## The event -/

theorem evaluate_evicts (fuel : Nat) {head : WakeEntry} {others : List WakeEntry} {ns : List Slot}
    (h : s.eligibleOrder = head :: others) (hf : ¬ s.fits head = true) (hset : s.evictionSet = [])
    (hp : s.evictionPrefix head = some ns) :
    State.evaluate (fuel + 1) s = ns.foldl State.evict { s with evictionSet := ns } := by
  rw [evaluate_succ, h]
  dsimp only
  rw [if_neg hf, if_neg (by rw [hset]; exact fun h => h rfl), hp]

theorem evaluate_waits (fuel : Nat) {head : WakeEntry} {others : List WakeEntry}
    (h : s.eligibleOrder = head :: others) (hf : ¬ s.fits head = true) (hset : s.evictionSet = [])
    (hp : s.evictionPrefix head = none) (hb : s.budget.bypassAllowance ≤ head.passed) :
    State.evaluate (fuel + 1) s = s := by
  rw [evaluate_succ, h]
  dsimp only
  rw [if_neg hf, if_neg (by rw [hset]; exact fun h => h rfl), hp]
  exact if_neg (not_lt.mpr hb)

/-- The state in which an eviction of `ns` starts: no evaluation is due, and the eviction set holds them (R46). -/
def State.evictionStart (s : State) (ns : List Slot) : State := { s with evaluationDue := false, evictionSet := ns }

theorem evictionStart_frame (s : State) (ns : List Slot) : Unchanged [.evaluationDue, .evictionSet] s (s.evictionStart ns) := by
  intro f hf; cases f <;> first | rfl | exact absurd (by decide) hf

theorem releaseTo_eq (r : SlotRecord) (m : RestMode) :
    r.releaseTo m = if m = .slumber then r.grantedAwake - r.grantedStandby else r.grantedAwake := by
  cases m <;> rfl

/-- The initial part of an eviction is the shortest that makes room, by R45's sum of releases. -/
theorem evictionPrefix_room {head : WakeEntry} {ns rest : List Slot} (hw : s.evictionWalk = ns ++ rest)
    (hroom : s.projected + s.increment head.slot ≤ s.effectiveLimit + (ns.map s.candidateRelease).sum)
    (hmin : ∀ k, k < ns.length →
      ¬ s.projected + s.increment head.slot ≤ s.effectiveLimit + ((ns.take k).map s.candidateRelease).sum) :
    s.evictionPrefix head = some ns := by
  rw [State.evictionPrefix, hw]
  exact shortestPrefix_minimal _ ns rest _ (by omega) (fun k hk h => hmin k hk (by omega))

theorem evictionPrefix_noRoom {head : WakeEntry}
    (h : ¬ s.projected + s.increment head.slot ≤ s.effectiveLimit + (s.evictionWalk.map s.candidateRelease).sum) :
    s.evictionPrefix head = none :=
  shortestPrefix_none _ _ _ (by omega)

/-- Settles O38: the initial part by `evictionPrefix_room`, and its evictions by `evictAll_evicted`. -/
theorem evictionTakesShortestPrefix : Obligations.EvictionTakesShortestPrefix := by
  intro head s hrun hdue hsh hre hcl hnd hset hhead
  obtain ⟨others, hel⟩ : ∃ others, s.undue.eligibleOrder = head :: others := by
    have hfind : (s.arbiterOrder.filter s.eligible).head? = some head := by rw [List.head?_filter]; exact hhead
    cases hl : s.arbiterOrder.filter s.eligible with
    | nil => rw [hl] at hfind; exact absurd hfind (by simp)
    | cons x others =>
      rw [hl] at hfind
      exact ⟨others, (hl : s.undue.eligibleOrder = _).trans (by rw [Option.some.inj hfind])⟩
  intro w inc walk given room toOff hbig
  have hrelease : ∀ ns : List Slot, (ns.map given).sum = (ns.map s.candidateRelease).sum := fun ns =>
    congrArg (fun f : Slot → Nat => (ns.map f).sum) (funext fun n => (releaseTo_eq (s.slot n) _).symm)
  have hroomIff : ∀ ns : List Slot, room ns ↔
      s.projected + s.increment head.slot ≤ s.effectiveLimit + (ns.map s.candidateRelease).sum := fun ns => by
    rw [← hrelease ns]; rfl
  have hnot : ¬ s.undue.fits head = true := fun h => by
    have := fits_le (s := s) h
    have hbig' : s.effectiveLimit < s.committed + s.increment head.slot := hbig
    omega
  have hrun' := evaluation_run hrun hdue hsh hre
  refine ⟨fun ns rest hw hroom hmin hstates => ?_, fun hno hb => ?_⟩
  · have hprefix : s.undue.evictionPrefix head = some ns :=
      evictionPrefix_room (s := s) hw ((hroomIff ns).mp hroom) (fun k hk h => hmin k hk ((hroomIff _).mpr h))
    have hsub : ns.Sublist (s.useOrder.filter s.candidate) := by
      rw [show s.useOrder.filter s.candidate = ns ++ rest from hw]; exact List.sublist_append_left _ _
    have fst := evictionStart_frame s ns
    have hall : EvictedAll ns (s.evictionStart ns) (ns.foldl State.evict (s.evictionStart ns)) :=
      evictAll_evicted ns _ ((hnd.filter _).sublist hsub)
        (fun n hn => ⟨(List.mem_filter.mp (hsub.subset hn)).2, hstates n hn⟩) (fst.sheds.trans hsh)
    have hev : State.evaluate (s.wake.length + 1) s.undue = ns.foldl State.evict (s.evictionStart ns) :=
      evaluate_evicts _ hel hnot hset hprefix
    obtain ⟨hsheds, hclaims⟩ := evictAll_arbitrated ns (s.evictionStart ns)
    have hnew : newCandidate s (ns.foldl State.evict (s.evictionStart ns)) = false := hall.newCandidate
    have hfin : s.finish (ns.foldl State.evict (s.evictionStart ns)) = ns.foldl State.evict (s.evictionStart ns) := by
      rw [finish_notShedding (hclaims (fst.claimsSound hcl)) (hsheds.trans (fst.sheds.trans hsh)), hnew]
      rfl
    have hset' : (ns.foldl State.evict (s.evictionStart ns)).evictionSet = ns.filter (fun n => !toOff n) := by
      rw [hall.evictionSet]
      have hmem : ∀ n ∈ ns, ns.contains n = true := fun n hn => List.contains_iff_mem.mpr hn
      exact List.filter_congr (fun n hn => by rw [hmem n hn]; rfl)
    refine ⟨_, (hrun'.trans (by rw [hev])).trans (by rw [hfin]), hset', fun n hn ho => hall.held n hn ho, fun n hn ho => ?_,
      hall.committed, hall.useOrder, hall.others, hall.att, fun hany => ⟨?_, ?_⟩, ?_⟩
    · obtain ⟨h1, h2, h3, h4, h5⟩ := hall.off n hn ho
      exact ⟨h1, h2, h3, h4, h5⟩
    · exact ((hall.frameHeld hany) .evaluationDue (by decide)).symm
    · exact fst.andThen (hall.frameHeld hany) (by decide) (by decide)
    · exact fst.andThen hall.frame (by decide) (by decide)
  · have hnone : s.undue.evictionPrefix head = none :=
      evictionPrefix_noRoom (s := s) (fun h => hno ((hroomIff walk).mpr h))
    rw [hrun', evaluate_waits _ hel hnot hset hnone hb, finish_undue hcl hsh]
    rfl

end Sys2Proof.Machine
end

section
/-! SELECTION_PASS: the selections, and the pass that goes on from the state a selection leaves (R56 to R66). -/

set_option Elab.async false

namespace Sys2Proof.Machine

variable {s t u : State} {n : Slot}

/-! ## No selection reads the due pass -/

/-- The state without a due pass. -/
def State.unpassed (s : State) : State := { s with passDue := false }

theorem unpassed_frame (s : State) : Unchanged [.passDue] s s.unpassed := by
  intro f hf; cases f <;> first | rfl | exact absurd (by decide) hf

theorem ite_unpassed {p : Prop} [Decidable p] {a b a' b' : State} (h1 : a' = a.unpassed) (h2 : b' = b.unpassed) :
    (if p then a' else b') = (if p then a else b).unpassed := by
  split
  · exact h1
  · exact h2

/-- An operation that leaves the due marks alone, seen without the due pass. -/
theorem unpassed_of_dues {a : List Field} (f : Unchanged a s t) (h : Field.evaluationDue ∉ a)
    (hd : u = t.dues s.evaluationDue false) : u = t.unpassed := by
  rw [hd, (f .evaluationDue h : s.evaluationDue = _)]
  rfl

theorem raise_unpassed (s : State) (x : Notice) : s.unpassed.raise x = (s.raise x).unpassed :=
  unpassed_of_dues (raise_frame s x) (by decide) (raise_dues s s.evaluationDue false x)

theorem reportChange_unpassed (s : State) (n : Slot) (new : SlotState) (x : List Byte) :
    s.unpassed.reportChange n new x = (s.reportChange n new x).unpassed :=
  unpassed_of_dues (reportChange_frame s n new x) (by decide) (reportChange_dues s s.evaluationDue false n new x)

theorem askControl_unpassed (s : State) (n : Slot) (c : ChainCommand) :
    s.unpassed.askControl n c = (s.askControl n c).unpassed :=
  unpassed_of_dues (askControl_frame s n c) (by decide) (askControl_dues s s.evaluationDue false n c)

theorem changedSlot_unpassed (s : State) (n : Slot) (new : SlotState) (x : List Byte) :
    s.unpassed.changedSlot n new x = (s.changedSlot n new x).unpassed := by
  unfold State.changedSlot
  rw [reportChange_unpassed]
  rfl

theorem markEvaluation_unpassed (s : State) : s.unpassed.markEvaluation = s.markEvaluation.unpassed := ite_unpassed rfl rfl

theorem release_unpassed (s : State) (a b : Nat) : s.unpassed.release a b = (s.release a b).unpassed :=
  ite_unpassed (markEvaluation_unpassed { s with committed := s.committed - (a - b) }) rfl

theorem leaveEvictionSet_unpassed (s : State) (n : Slot) : s.unpassed.leaveEvictionSet n = (s.leaveEvictionSet n).unpassed :=
  ite_unpassed (ite_unpassed (markEvaluation_unpassed { s with evictionSet := s.evictionSet.filter (· != n) }) rfl) rfl

theorem changeState_unpassed (s : State) (n : Slot) (new : SlotState) (x : List Byte) :
    s.unpassed.changeState n new x = (s.changeState n new x).unpassed := by
  rw [changeState_eq, changeState_eq, changedSlot_unpassed, release_unpassed, leaveEvictionSet_unpassed]
  exact ite_unpassed rfl rfl

theorem removeEntry_unpassed (s : State) (n : Slot) : s.unpassed.removeEntry n = (s.removeEntry n).unpassed :=
  ite_unpassed (markEvaluation_unpassed { s with wake := s.wake.filter (fun e => e.slot != n) }) rfl

theorem unpassed_wakeEntry (s : State) (n : Slot) : s.unpassed.wakeEntry n = s.wakeEntry n := rfl

theorem withdrawReason_unpassed (s : State) (n : Slot) (why : WakeReason) :
    s.unpassed.withdrawReason n why = (s.withdrawReason n why).unpassed := by
  unfold State.withdrawReason
  rw [unpassed_wakeEntry]
  cases s.wakeEntry n with
  | none => rfl
  | some e => exact ite_unpassed (removeEntry_unpassed s n) rfl

/-- A new entry of the wake list (R34). -/
def State.entryAdded (s : State) (n : Slot) (why : WakeReason) (l : Level) : State :=
  { s with
    wake := s.wake ++ [{ slot := n, join := s.joinCounter, level := l, reasons := ReasonSet.none.add why, passed := 0 }]
    joinCounter := s.joinCounter + 1 }

/-- A reason and a level brought to an entry of the wake list (R35, R36). -/
def State.entryMerged (s : State) (n : Slot) (why : WakeReason) (l : Level) (e : WakeEntry) : State :=
  { s with wake := s.wake.map (fun x => if x.slot = n then
      { e with reasons := e.reasons.add why, level := higherLevel e.level l } else x) }

theorem gainReason_none (h : s.wakeEntry n = none) (why : WakeReason) (l : Level) :
    s.gainReason n why l = (s.entryAdded n why l).markEvaluation := by
  unfold State.gainReason
  rw [h]
  rfl

theorem gainReason_some {e : WakeEntry} (h : s.wakeEntry n = some e) (why : WakeReason) (l : Level) :
    s.gainReason n why l = if higherLevel e.level l = e.level then s.entryMerged n why l e
      else (s.entryMerged n why l e).markEvaluation := by
  unfold State.gainReason
  rw [h]
  rfl

theorem gainReason_unpassed (s : State) (n : Slot) (why : WakeReason) (l : Level) :
    s.unpassed.gainReason n why l = (s.gainReason n why l).unpassed := by
  cases h : s.wakeEntry n with
  | none =>
    rw [gainReason_none (s := s.unpassed) h, gainReason_none h]
    exact markEvaluation_unpassed (s.entryAdded n why l)
  | some e =>
    rw [gainReason_some (s := s.unpassed) h, gainReason_some h]
    exact ite_unpassed rfl (markEvaluation_unpassed (s.entryMerged n why l e))

/-- The notice and the withdrawals of an attention action whose slot enters OFF (R127). -/
def State.actionAborted (s : State) (n : Slot) : State :=
  match (s.att n).phase with
  | .waitingRecord => ({ s with claims := s.claims.filter (· != n) } : State).raiseAttention n .aborted []
  | .waitingAwake => (s.withdrawReason n .attention).raiseAttention n .aborted []
  | .idle => s
  | .holdoff => s
  | .fetching => s

theorem attentionAtOff_eq (s : State) (n : Slot) : s.attentionAtOff n =
    if s.restarting then s.updateAtt n (fun x => { x with sensing := false, lastLevel := none, senseRead := none })
    else (s.actionAborted n).setAtt n
      { AttentionRecord.reset with phase := if (s.att n).phase = .fetching then .fetching else .idle } := rfl

theorem raiseAttention_unpassed (s : State) (n : Slot) (st : Status) (d : List Byte) :
    s.unpassed.raiseAttention n st d = (s.raiseAttention n st d).unpassed := raise_unpassed s _

theorem actionAborted_unpassed (s : State) (n : Slot) : s.unpassed.actionAborted n = (s.actionAborted n).unpassed := by
  have hatt : s.unpassed.att n = s.att n := rfl
  unfold State.actionAborted
  rw [hatt]
  cases (s.att n).phase with
  | waitingRecord => exact raiseAttention_unpassed { s with claims := s.claims.filter (· != n) } n .aborted []
  | waitingAwake =>
    dsimp only
    rw [withdrawReason_unpassed]
    exact raiseAttention_unpassed _ n .aborted []
  | idle => rfl
  | holdoff => rfl
  | fetching => rfl

theorem attentionAtOff_unpassed (s : State) (n : Slot) : s.unpassed.attentionAtOff n = (s.attentionAtOff n).unpassed := by
  rw [attentionAtOff_eq, attentionAtOff_eq, actionAborted_unpassed]
  exact ite_unpassed rfl rfl

/-- Reason WORK of a slot that rests with records (R16). -/
def State.gainWork (s : State) (n : Slot) : State := if (s.queue n).isEmpty then s else s.gainReason n .work (s.workLevel n)

theorem gainAtRest_eq (s : State) (n : Slot) (x : Bool) : s.gainAtRest n x =
    if ((s.gainWork n).slot n).pin ∧ x = false then (s.gainWork n).gainReason n .pin .urgent else s.gainWork n := rfl

theorem gainWork_unpassed (s : State) (n : Slot) : s.unpassed.gainWork n = (s.gainWork n).unpassed :=
  ite_unpassed rfl (gainReason_unpassed s n .work _)

theorem gainAtRest_unpassed (s : State) (n : Slot) (x : Bool) : s.unpassed.gainAtRest n x = (s.gainAtRest n x).unpassed := by
  rw [gainAtRest_eq, gainAtRest_eq, gainWork_unpassed]
  exact ite_unpassed (gainReason_unpassed (s.gainWork n) n .pin .urgent) rfl

theorem enterOff_unpassed (s : State) (n : Slot) (x : Bool) : s.unpassed.enterOff n x = (s.enterOff n x).unpassed := by
  unfold State.enterOff
  rw [changeState_unpassed, attentionAtOff_unpassed, gainAtRest_unpassed]

theorem towardsRest_unpassed (s : State) (n : Slot) : s.unpassed.towardsRest n = (s.towardsRest n).unpassed := by
  have hslot : s.unpassed.slot n = s.slot n := rfl
  have hfl : s.unpassed.inFlight n = s.inFlight n := rfl
  unfold State.towardsRest
  rw [hslot, hfl]
  split
  · split
    · exact enterOff_unpassed s n _
    · exact askControl_unpassed s n .slumber
  · rfl

theorem startDrain_unpassed (s : State) (n : Slot) (c : DrainCause) (m : RestMode) :
    s.unpassed.startDrain n c m = (s.startDrain n c m).unpassed := by
  have hbegun : s.unpassed.drainBegun n c m = (s.drainBegun n c m).unpassed := by
    unfold State.drainBegun
    rw [changeState_unpassed]
    rfl
  rw [startDrain_eq, startDrain_eq, hbegun, towardsRest_unpassed]

theorem switchOff_unpassed (s : State) (n : Slot) (k : SwitchOffKind) :
    s.unpassed.switchOff n k = (s.switchOff n k).unpassed := ite_unpassed rfl (enterOff_unpassed s n _)

theorem shedSlot_unpassed (s : State) (n : Slot) : s.unpassed.shedSlot n = (s.shedSlot n).unpassed := by
  have hslot : s.unpassed.slot n = s.slot n := rfl
  have hprofile : s.unpassed.profile n = s.profile n := rfl
  unfold State.shedSlot
  rw [hslot, hprofile]
  cases (s.slot n).state with
  | draining => rfl
  | awake => exact startDrain_unpassed s n .shed _
  | powering => exact switchOff_unpassed s n .shed
  | waking => exact switchOff_unpassed s n .shed
  | slumber => exact switchOff_unpassed s n .shed
  | off => rfl
  | settling => rfl
  | faulted => rfl

theorem selectVictim_unpassed (s : State) (n : Slot) : s.unpassed.selectVictim n = (s.selectVictim n).unpassed := by
  unfold State.selectVictim
  rw [shedSlot_unpassed]
  rfl

/-! ## The victims -/

theorem mem_victimOrder (s : State) (n : Slot) : n ∈ s.victimOrder ↔
    n ∈ s.useOrder ∧ (s.idleSlot n = true ∧ (s.slot n).idleDraining = true ∨ (s.slot n).state = .awake) ∨
      (s.slot n).state.comingUp = true ∧ (s.slot n).switchOff = none ∨ (s.slot n).state = .slumber := by
  have hstage : ∀ p : Bool, n ∈ s.stages p ↔ (s.slot n).pin = p ∧
      (n ∈ s.useOrder ∧ (s.idleSlot n = true ∧ (s.slot n).idleDraining = true ∨ (s.slot n).state = .awake) ∨
        (s.slot n).state.comingUp = true ∧ (s.slot n).switchOff = none ∨ (s.slot n).state = .slumber) := fun p => by
    simp only [State.stages, List.mem_append, List.mem_filter, Bool.and_eq_true, beq_iff_eq, Bool.not_eq_true',
      Option.isNone_iff_eq_none, mem_allSlots, true_and]
    cases s.idleSlot n <;> simp <;> tauto
  rw [State.victimOrder, List.mem_append, hstage, hstage]
  cases (s.slot n).pin <;> simp

/-- A slot that no selection takes any more, whatever stands in the use order. -/
def SlotRecord.spent (r : SlotRecord) : Prop :=
  r.idleDraining = false ∧ r.state ≠ .awake ∧ (r.state.comingUp = true → r.switchOff ≠ none) ∧ r.state ≠ .slumber

theorem spent_not_victim (h : (s.slot n).spent) : n ∉ s.victimOrder := by
  obtain ⟨h1, h2, h3, h4⟩ := h
  rw [mem_victimOrder]
  rintro (⟨-, ⟨-, h⟩ | h⟩ | ⟨h, h'⟩ | h)
  · rw [h1] at h; exact Bool.noConfusion h
  · exact h2 h
  · exact h3 h h'
  · exact h4 h

theorem inOff_spent (r : SlotRecord) (k : Nat) : (r.inOff k).spent :=
  ⟨not_idleDraining_of_state SlotState.noConfusion, SlotState.noConfusion, fun h => Bool.noConfusion h, SlotState.noConfusion⟩

/-! ## A selection by the state of its slot -/

theorem shedSlot_draining (h : (s.slot n).state = .draining) : s.shedSlot n = s.convertDrain n .shed := by
  simp only [State.shedSlot, h]

theorem shedSlot_awake (h : (s.slot n).state = .awake) : s.shedSlot n = s.startDrain n .shed (s.profile n).power.restMode := by
  simp only [State.shedSlot, h]

theorem shedSlot_switchOff (h : (s.slot n).state.comingUp = true ∨ (s.slot n).state = .slumber) :
    s.shedSlot n = s.switchOff n .shed := by
  cases hs : (s.slot n).state <;> simp_all [State.shedSlot, SlotState.comingUp]

/-- A coming-up slot with its exchange in flight is marked (R19). -/
theorem switchOff_marked (h : (s.slot n).state.comingUp = true) (hf : s.inFlight n = true) (k : SwitchOffKind) :
    s.switchOff n k = s.setSlot n { s.slot n with step := none, limit := none, timedOut := none, switchOff := some k } :=
  if_pos ⟨fun h' => by rw [h'] at h; exact Bool.noConfusion h, hf⟩

theorem switchOff_entersOff (h : (s.slot n).state = .slumber ∨ s.inFlight n = false) (k : SwitchOffKind) :
    s.switchOff n k = s.enterOff n (k == .offcmd) :=
  if_neg (fun hx => h.elim hx.1 (fun hf => by rw [hf] at hx; exact Bool.noConfusion hx.2))

/-- What a selection does: its slot enters OFF, or is held in the state in which no other selection takes it. -/
theorem shedSlot_step (hn : n ∈ s.victimOrder) : OffEntered n (s.slot n).failures s (s.shedSlot n) ∨
    Unchanged drainFields s (s.shedSlot n) ∧ ((s.shedSlot n).slot n).spent := by
  rw [mem_victimOrder] at hn
  have hup : (s.slot n).state.comingUp = true ∨ (s.slot n).state = .slumber →
      OffEntered n (s.slot n).failures s (s.shedSlot n) ∨
        Unchanged drainFields s (s.shedSlot n) ∧ ((s.shedSlot n).slot n).spent := fun h => by
    rw [shedSlot_switchOff h]
    by_cases hb : (s.slot n).state = .slumber ∨ s.inFlight n = false
    · rw [switchOff_entersOff hb]
      exact Or.inl (enterOff_entered s n _)
    · simp only [not_or, Bool.not_eq_false] at hb
      have hcu := h.resolve_right hb.1
      obtain ⟨hna, hnd⟩ := comingUp_ne hcu
      rw [switchOff_marked hcu hb.2]
      refine Or.inr ⟨(setSlot_frame s n _).mono (by decide), ?_⟩
      rw [setSlot_slot_self]
      exact ⟨not_idleDraining_of_state hnd, hna, fun _ => Option.some_ne_none _, hb.1⟩
  rcases hn with ⟨-, ⟨-, hid⟩ | hs⟩ | ⟨hcu, -⟩ | hs
  · have hs := idleDraining_state hid
    have hslot : (s.convertDrain n .shed).slot n = { s.slot n with
        drain := (s.slot n).drain.map (fun d => { d with cause := .shed }) } := setSlot_slot_self s n _
    rw [shedSlot_draining hs]
    refine Or.inr ⟨(convertDrain_frame s n .shed).mono (by decide), ?_⟩
    rw [hslot]
    refine ⟨?_, ?_, ?_, ?_⟩
    · cases hd : (s.slot n).drain <;> simp [SlotRecord.idleDraining]
    all_goals simp [hs, SlotState.comingUp]
  · rw [shedSlot_awake hs]
    by_cases hm : s.inFlight n = true ∨ (s.profile n).power.restMode = .slumber
    · obtain ⟨hslot, -, hframe⟩ := startDrain_held hs .shed _ hm
      refine Or.inr ⟨hframe, ?_⟩
      rw [hslot]
      exact ⟨idleDraining_drain rfl DrainCause.noConfusion, SlotState.noConfusion, fun h => Bool.noConfusion h,
        SlotState.noConfusion⟩
    · simp only [not_or, Bool.not_eq_true] at hm
      have hoff : (s.profile n).power.restMode = .off := by
        cases hr : (s.profile n).power.restMode with
        | slumber => exact absurd hr hm.2
        | off => rfl
      rw [hoff]
      exact Or.inl (startDrain_off_entered hs .shed hm.1)
  · exact hup (Or.inl hcu)
  · exact hup (Or.inr hs)

theorem shedSlot_spent (hn : n ∈ s.victimOrder) : ((s.shedSlot n).slot n).spent := by
  rcases shedSlot_step hn with ⟨hslot, -⟩ | ⟨-, h⟩
  · exact hslot ▸ inOff_spent (s.slot n) _
  · exact h

theorem shedSlot_useOrder (hn : n ∈ s.victimOrder) {m : Slot} (hm : m ∈ (s.shedSlot n).useOrder) : m ∈ s.useOrder := by
  rcases shedSlot_step hn with ⟨-, -, -, horder, -⟩ | ⟨hf, -⟩
  · rw [horder] at hm
    exact List.mem_of_mem_filter hm
  · rwa [← (hf .useOrder (by decide) : s.useOrder = _)] at hm

/-! ## What selections leave -/

/-- No slot becomes a candidate, and no idle drain starts. -/
def NoneIdled (s t : State) : Prop :=
  ∀ k, (t.candidate k = true → s.candidate k = true) ∧ ((t.slot k).idleDraining = true → (s.slot k).idleDraining = true)

theorem NoneIdled.trans (h : NoneIdled s t) (g : NoneIdled t u) : NoneIdled s u := fun k =>
  ⟨(h k).1 ∘ (g k).1, (h k).2 ∘ (g k).2⟩

theorem NoneIdled.newCandidate (h : NoneIdled s t) : newCandidate s t = false :=
  newCandidate_same s t (fun k => (h k).1) (fun k => (h k).2)

theorem shedSlot_noneIdled (hn : n ∈ s.victimOrder) : NoneIdled s (s.shedSlot n) := by
  intro k
  by_cases hk : k = n
  · subst hk
    obtain ⟨h1, h2, -⟩ := shedSlot_spent hn
    exact ⟨fun h => by rw [not_candidate_of_state h2 h1] at h; exact Bool.noConfusion h,
      fun h => by rw [h1] at h; exact Bool.noConfusion h⟩
  · obtain ⟨h1, h2, h3, -⟩ := shedSlot_onlySlot s n k hk
    refine ⟨fun h => ?_, fun h => by rwa [h1] at h⟩
    rw [candidate_iff, h1, h2, h3, (shedSlot_frame s n).inFlight k, ← candidate_iff] at h
    exact h

theorem selectVictim_noneIdled (hn : n ∈ s.victimOrder) : NoneIdled s (s.selectVictim n) := fun k =>
  ⟨fun h => (shedSlot_noneIdled hn k).1 (by rwa [(selectVictim_frame s n).candidate k] at h),
    fun h => (shedSlot_noneIdled hn k).2 (by rwa [(selectVictim_frame s n).slot k] at h)⟩

theorem switchOff_claimsSound (h : s.claimsSound) (n : Slot) (k : SwitchOffKind) : (s.switchOff n k).claimsSound := by
  unfold State.switchOff
  split
  · exact setSlot_claimsSound h _
  · exact enterOff_claimsSound h _

theorem shedSlot_claimsSound (h : s.claimsSound) (n : Slot) : (s.shedSlot n).claimsSound := by
  unfold State.shedSlot
  split
  · exact (convertDrain_frame s n .shed).claimsSound h
  · exact startDrain_claimsSound_any h n _ _
  · exact switchOff_claimsSound h n _
  · exact switchOff_claimsSound h n _
  · exact switchOff_claimsSound h n _
  · exact h
  · exact h
  · exact h

theorem selectVictim_claimsSound (h : s.claimsSound) (n : Slot) : (s.selectVictim n).claimsSound :=
  (selectVictim_frame s n).claimsSound (shedSlot_claimsSound h n)

/-- How many slots stand in victim order. -/
def State.victimCount (s : State) : Nat := s.victimOrder.toFinset.card

theorem victimCount_le (s : State) : s.victimCount ≤ 24 := (Finset.card_le_univ _).trans (Fintype.card_fin 24).le

theorem selectVictim_victims (hn : n ∈ s.victimOrder) {k : Slot} (hk : k ∈ (s.selectVictim n).victimOrder) :
    k ≠ n ∧ k ∈ s.victimOrder := by
  have hk' : k ∈ (s.shedSlot n).victimOrder := hk
  have hkn : k ≠ n := fun h => spent_not_victim (shedSlot_spent hn) (h ▸ hk')
  refine ⟨hkn, ?_⟩
  obtain ⟨h1, h2, h3, -⟩ := shedSlot_onlySlot s n k hkn
  have hidle : (s.shedSlot n).idleSlot k = s.idleSlot k := by
    simp only [State.idleSlot, h1, h2, h3, (shedSlot_frame s n).inFlight k]
  rw [mem_victimOrder, h1, hidle] at hk'
  rw [mem_victimOrder]
  exact hk'.imp (fun h => ⟨shedSlot_useOrder hn h.1, h.2⟩) id

/-- A slot is selected at most once. -/
theorem selectVictim_count (hn : n ∈ s.victimOrder) : (s.selectVictim n).victimCount < s.victimCount := by
  refine Finset.card_lt_card (Finset.ssubset_iff_subset_ne.mpr ⟨fun k hk => ?_, fun he => ?_⟩)
  · exact List.mem_toFinset.mpr (selectVictim_victims hn (List.mem_toFinset.mp hk)).2
  · have : n ∈ (s.selectVictim n).victimOrder.toFinset := he ▸ List.mem_toFinset.mpr hn
    exact (selectVictim_victims hn (List.mem_toFinset.mp this)).1 rfl

/-- Fuel above the number of victims is not used up. -/
theorem selectVictims_fuel : ∀ (fuel : Nat) (s : State), s.victimCount < fuel →
    State.selectVictims (fuel + 1) s = State.selectVictims fuel s
  | 0, _, h => absurd h (Nat.not_lt_zero _)
  | fuel + 1, s, h => by
    rw [selectVictims_succ (fuel + 1), selectVictims_succ fuel]
    split
    · rfl
    · split
      · rfl
      · rename_i n others hv
        have hn : n ∈ s.victimOrder := by rw [hv]; exact List.mem_cons_self
        have hlt := selectVictim_count hn
        rw [selectVictims_fuel fuel (s.selectVictim n) (by omega)]

theorem selectVictims_idle (fuel : Nat) (h : s.projected ≤ s.effectiveLimit ∨ s.victimOrder = []) :
    State.selectVictims fuel s = s := by
  cases fuel with
  | zero => rfl
  | succ fuel =>
    rw [selectVictims_succ]
    split
    · rfl
    · rename_i hno
      rw [h.resolve_left (fun hp => hno (Or.inr hp))]

theorem selectVictims_first (fuel : Nat) {others : List Slot} (hsh : s.sheds = true) (hp : s.effectiveLimit < s.projected)
    (hv : s.victimOrder = n :: others) : State.selectVictims (fuel + 1) s =
      if (s.selectVictim n).committed ≤ (s.selectVictim n).effectiveLimit then (s.selectVictim n).endShedding .release
      else State.selectVictims fuel (s.selectVictim n) := by
  rw [selectVictims_succ, if_neg (fun h => h.elim (fun h => by rw [hsh] at h; exact Bool.noConfusion h) (fun h => by omega)), hv]

/-- A pass keeps the law of the claims, makes no candidate, and leaves shedding active only above the limit. -/
theorem selectVictims_result : ∀ (fuel : Nat) (s : State), s.claimsSound → s.effectiveLimit < s.committed →
    (State.selectVictims fuel s).claimsSound ∧ NoneIdled s (State.selectVictims fuel s) ∧
      ((State.selectVictims fuel s).sheds = true →
        (State.selectVictims fuel s).effectiveLimit < (State.selectVictims fuel s).committed)
  | 0, s, hcl, hlim => ⟨hcl, fun _ => ⟨id, id⟩, fun _ => hlim⟩
  | fuel + 1, s, hcl, hlim => by
    rw [selectVictims_succ]
    split
    · exact ⟨hcl, fun _ => ⟨id, id⟩, fun _ => hlim⟩
    · split
      · exact ⟨hcl, fun _ => ⟨id, id⟩, fun _ => hlim⟩
      · rename_i n others hv
        have hn : n ∈ s.victimOrder := by rw [hv]; exact List.mem_cons_self
        have hclv := selectVictim_claimsSound hcl n
        split
        · have f := endShedding_frame (s.selectVictim n) .release
          refine ⟨f.claimsSound hclv, (selectVictim_noneIdled hn).trans (fun k => ?_), fun h => ?_⟩
          · exact ⟨fun h => by rwa [f.candidate k] at h, fun h => by rwa [f.slot k] at h⟩
          · rw [endShedding_sheds] at h; exact Bool.noConfusion h
        · rename_i hover
          obtain ⟨h1, h2, h3⟩ := selectVictims_result fuel (s.selectVictim n) hclv (not_le.mp hover)
          exact ⟨h1, (selectVictim_noneIdled hn).trans h2, h3⟩

/-! ## The event -/

theorem selectionPass_run (hrun : s.running = true) (hdue : s.passDue = true) (hsh : s.sheds = true)
    (hre : s.restarting = false) : exec .selectionPass s = .next (s.finish (State.selectVictims 25 s.unpassed)) := by
  have hopen : s.passOpen = true := by simp [State.passOpen, hrun, hdue, hsh, hre]
  have hexec : exec .selectionPass s = event s.passOpen s (fun s => State.selectVictims 25 { s with passDue := false }) := rfl
  rw [hexec, hopen, event_due]
  rfl

theorem finish_unpassed (hcl : s.claimsSound) : s.finish s.unpassed = s.unpassed :=
  finish_quiet s s.unpassed ((unpassed_frame s).claimsSound hcl) (newCandidate_same s _ (fun _ h => h) (fun _ h => h))
    (courseChanged_same s _ rfl (fun _ => ⟨rfl, rfl⟩))

/-- An event that makes no candidate and stays above the limit can make a pass due, and nothing else. -/
theorem finish_frame_above (hcl : t.claimsSound) (hn : newCandidate s t = false)
    (hl : t.sheds = true → t.effectiveLimit < t.committed) : Unchanged [.passDue] t (s.finish t) := by
  dsimp only [State.finish]
  rw [serveClaims_none t hcl, hn]
  generalize h3 : (if courseChanged s (if false = true then t.markEvaluation else t) = true then
    (if false = true then t.markEvaluation else t).markPass else (if false = true then t.markEvaluation else t)) = t3
  have f : Unchanged [.passDue] t t3 := by
    rw [← h3]
    exact Unchanged.ite (fun _ => markPass_frame t) (fun _ => Unchanged.refl _ t)
  refine Unchanged.ite (fun hend => ?_) (fun _ => f)
  obtain ⟨hsh, -, hle⟩ := hend
  have := hl (f.sheds.symm.trans hsh)
  rw [f.effectiveLimit, ← (f .committed (by decide) : t.committed = _)] at hle
  omega

/-- A release that brings committed weight within the limit ends shedding with the pass (R65, R66). -/
theorem endShedding_ends (c : ShedEndCause) :
    (t.endShedding c).shedding = { t.shedding with active := none } ∧ (t.endShedding c).evaluationDue = true ∧
    (t.endShedding c).passDue = false ∧
    NoticeRaised { kind := .shedEnd, stamp := t.timeBase, slot := none, requesterTag := none, unit := none,
                   cause := some (.shedEnd c), count := t.shedding.victims,
                   data := word16 t.effectiveLimit ++ word16 t.committed } t (t.endShedding c) := by
  unfold State.endShedding
  generalize hv : ({ t with shedding := { t.shedding with active := none }, passDue := false } : State) = v
  generalize hx : ({ t.blankNotice .shedEnd with
    cause := some (.shedEnd c), count := t.shedding.victims, data := t.shedData } : Notice) = x
  have fm := markEvaluation_frame (v.raise x)
  have fr := raise_frame v x
  have hoff : (v.raise x).sheds = false := by rw [fr.sheds, ← hv]; rfl
  have hraised : NoticeRaised x t (v.raise x) := by
    have := raise_raised v x
    rw [← hv] at this ⊢
    exact this
  refine ⟨?_, ?_, ?_, ?_⟩
  · rw [← (fm .shedding (by decide) : State.shedding _ = _), ← (fr .shedding (by decide) : v.shedding = _), ← hv]
  · rw [markEvaluation_due, hoff]; simp
  · rw [← (fm .passDue (by decide) : State.passDue _ = _), ← (fr .passDue (by decide) : v.passDue = _), ← hv]
  · have e1 : (v.raise x).notices = _ := fm .notices (by decide)
    have e2 : (v.raise x).lostCount = _ := fm .lostCount (by decide)
    have e3 : (v.raise x).firstLoss = _ := fm .firstLoss (by decide)
    unfold NoticeRaised at hraised ⊢
    rw [← e1, ← e2, ← e3]
    rw [← hx] at hraised ⊢
    exact hraised

/-- A selection within the pass, by the state of its slot (R57 to R62). -/
theorem selectVictim_acts (n : Slot) :
    (∀ target, (s.slot n).state = .draining → (s.slot n).drain = some { cause := .idle, target := target } →
      (s.selectVictim n).slot n = { s.slot n with drain := some { cause := .shed, target := target } } ∧
        Unchanged [.slots, .shedding] s (s.selectVictim n)) ∧
    ((s.slot n).state = .awake → s.inFlight n = true ∨ (s.profile n).power.restMode = .slumber →
      (s.selectVictim n).slot n = (s.slot n).drained .shed (s.profile n).power.restMode ∧
      (s.selectVictim n).control = s.control.filter (fun x => x.slot != n) ++
        (if s.inFlight n = true ∨ s.stopped = true then [] else [{ slot := n, command := .slumber }]) ∧
      Unchanged [.slots, .shedding, .control, .notices, .lostCount, .firstLoss] s (s.selectVictim n)) ∧
    ((s.slot n).state = .awake → s.inFlight n = false → (s.profile n).power.restMode = .off →
      OffEntered n (s.slot n).failures s (s.selectVictim n) ∧
        ((s.slot n).pin = true → (s.selectVictim n).listed n = true)) ∧
    ((s.slot n).state.comingUp = true → s.inFlight n = true →
      (s.selectVictim n).slot n = { s.slot n with step := none, limit := none, timedOut := none, switchOff := some .shed } ∧
        Unchanged [.slots, .shedding] s (s.selectVictim n)) ∧
    ((s.slot n).state.comingUp = true ∧ s.inFlight n = false ∨ (s.slot n).state = .slumber →
      OffEntered n (s.slot n).failures s (s.selectVictim n) ∧
        ((s.slot n).pin = true → (s.selectVictim n).listed n = true)) := by
  have fv := selectVictim_frame s n
  refine ⟨fun target hs hd => ?_, fun hs hm => ?_, fun hs hf hm => ?_, fun hcu hf => ?_, fun h => ?_⟩
  · have hslot : (s.convertDrain n .shed).slot n = { s.slot n with
        drain := (s.slot n).drain.map (fun d => { d with cause := .shed }) } := setSlot_slot_self s n _
    rw [fv.slot n]
    rw [shedSlot_draining hs] at fv ⊢
    exact ⟨hslot.trans (by rw [hd]; rfl), (convertDrain_frame s n .shed).andThen fv (by decide) (by decide)⟩
  · obtain ⟨hslot, hctl, hframe⟩ := startDrain_held hs .shed _ hm
    rw [fv.slot n, ← (fv .control (by decide) : State.control _ = _)]
    rw [shedSlot_awake hs] at fv ⊢
    exact ⟨hslot, hctl, hframe.andThen fv (by decide) (by decide)⟩
  · rw [fv.listed n]
    rw [shedSlot_awake hs, hm] at fv ⊢
    exact ⟨(startDrain_off_entered hs .shed hf).andThen (fv.mono (by decide)), fun hp => startDrain_off_listed hf rfl hp⟩
  · rw [fv.slot n]
    rw [shedSlot_switchOff (Or.inl hcu), switchOff_marked hcu hf] at fv ⊢
    exact ⟨setSlot_slot_self s n _, (setSlot_frame s n _).andThen fv (by decide) (by decide)⟩
  · rw [fv.listed n]
    rw [shedSlot_switchOff (h.imp And.left id), switchOff_entersOff (h.symm.imp id And.right)] at fv ⊢
    exact ⟨(enterOff_entered s n _).andThen (fv.mono (by decide)), fun hp => enterOff_listed hp⟩

/-- Settles O41: the selection by `selectVictim_acts`, the rest of the pass by the fuel that is not used up. -/
theorem selectionPassTakesFirstVictim : Obligations.SelectionPassTakesFirstVictim := by
  intro s hrun hdue hsh hre hcl inUse numbered stages victims
  have hvictims : victims = s.victimOrder := by
    simp only [victims, stages, inUse, numbered, State.victimOrder, State.stages, Bool.and_assoc]
  have hrun' := selectionPass_run hrun hdue hsh hre
  rw [hvictims]
  refine ⟨fun h => ?_, fun n others hp hv => ?_⟩
  · rw [hrun', selectVictims_idle (s := s.unpassed) 25 h, finish_unpassed hcl]
    rfl
  have hn : n ∈ s.victimOrder := by rw [hv]; exact List.mem_cons_self
  have fshed := shedSlot_frame s n
  have fv := selectVictim_frame s n
  have fg : Unchanged (.shedding :: wakingFields) s (s.selectVictim n) := fshed.andThen fv (by decide) (by decide)
  have hgdue : (s.selectVictim n).passDue = true := (fg .passDue (by decide) : s.passDue = _).symm.trans hdue
  have hclg := selectVictim_claimsSound hcl n
  have honly : OnlySlot n s (s.selectVictim n) :=
    (shedSlot_onlySlot s n).trans (fv.onlySlot n (by decide) (by decide) (by decide) (by decide))
  have hidled := selectVictim_noneIdled hn
  have hfirst := selectVictims_first (s := s.unpassed) 24 hsh hp hv
  rw [selectVictim_unpassed] at hfirst
  obtain ⟨hconvert, hdrain, hoff, hmark, hswitch⟩ := selectVictim_acts (s := s) n
  refine ⟨hgdue, honly, hconvert, hdrain, hoff, hmark, fun hcu hf => hswitch (Or.inl ⟨hcu, hf⟩), fun hs => hswitch (Or.inr hs),
    fun hle => ?_, fun hgt => ?_⟩
  · have hle' : (s.selectVictim n).unpassed.committed ≤ (s.selectVictim n).unpassed.effectiveLimit := hle
    have fe := endShedding_frame (s.selectVictim n).unpassed .release
    have hcle := fe.claimsSound ((unpassed_frame _).claimsSound hclg)
    have hnew : newCandidate s ((s.selectVictim n).unpassed.endShedding .release) = false :=
      (hidled.trans (fun k => ⟨fun h => by rw [fe.candidate k] at h; exact h, fun h => by rw [fe.slot k] at h; exact h⟩)).newCandidate
    rw [if_pos hle'] at hfirst
    rw [hrun', hfirst, finish_notShedding hcle (endShedding_sheds _ _), hnew]
    obtain ⟨h1, h2, h3, h4⟩ := endShedding_ends (t := (s.selectVictim n).unpassed) .release
    have htime : (s.selectVictim n).unpassed.timeBase = s.timeBase := (fg .timeBase (by decide) : s.timeBase = _).symm
    rw [htime] at h4
    exact ⟨_, rfl, h1, h2, h3, h4, (unpassed_frame _).andThen fe (by decide) (by decide)⟩
  · have hgt' : (s.selectVictim n).unpassed.effectiveLimit < (s.selectVictim n).unpassed.committed := hgt
    rw [if_neg (not_le.mpr hgt')] at hfirst
    have hcount : (s.selectVictim n).unpassed.victimCount < 24 := by
      have h1 : (s.selectVictim n).unpassed.victimCount < s.victimCount := selectVictim_count hn
      have h2 := victimCount_le s
      omega
    have hgrun := selectionPass_run (s := s.selectVictim n) (fg.running.trans hrun) hgdue ((selectVictim_sheds s n).trans hsh) (fg.restarting.trans hre)
    rw [selectVictims_fuel 24 _ hcount] at hgrun
    obtain ⟨hclx, hidx, hlim⟩ := selectVictims_result 24 (s.selectVictim n).unpassed ((unpassed_frame _).claimsSound hclg) hgt'
    have hng : newCandidate (s.selectVictim n) (State.selectVictims 24 (s.selectVictim n).unpassed) = false := hidx.newCandidate
    have hns : newCandidate s (State.selectVictims 24 (s.selectVictim n).unpassed) = false := (hidled.trans hidx).newCandidate
    rw [hrun', hfirst]
    exact ⟨_, rfl, _, hgrun, (finish_frame_above hclx hng hlim).symm.trans (finish_frame_above hclx hns hlim)⟩

end Sys2Proof.Machine
end

section
/-! The supply budget: the answer to a limit set anew by SUPPLY_LOW or by a write, and the budget report. -/

set_option Elab.async false

namespace Sys2Proof.Machine

variable {s t u v : State}

/-! ## The answer to a limit set anew -/

/-- The fields that the arbiter's answer is stated over. -/
abbrev answerFields : List Field :=
  [.shedding, .committed, .restart, .timeBase, .passDue, .evaluationDue, .notices, .lostCount, .firstLoss]

/-- What happens before and after the answer in the same event leaves it standing, where it acts on none of these fields. -/
theorem LimitAnswered.between {a b : List Field} {c : ActivationCause} {old now : Nat} (h : LimitAnswered c old now u v)
    (before : Unchanged a s u) (after : Unchanged b v t) (ha : ∀ f ∈ answerFields, f ∉ a := by decide)
    (hb : ∀ f ∈ answerFields, f ∉ b := by decide) : LimitAnswered c old now s t := by
  have hsheds := before.sheds (ha _ (by decide))
  have hrestarting := before.restarting (ha _ (by decide))
  have s1 : s.shedding = u.shedding := before .shedding (ha _ (by decide))
  have s2 : s.committed = u.committed := before .committed (ha _ (by decide))
  have s3 : s.timeBase = u.timeBase := before .timeBase (ha _ (by decide))
  have s4 : s.passDue = u.passDue := before .passDue (ha _ (by decide))
  have s5 : s.evaluationDue = u.evaluationDue := before .evaluationDue (ha _ (by decide))
  have s6 : s.notices = u.notices := before .notices (ha _ (by decide))
  have s7 : s.lostCount = u.lostCount := before .lostCount (ha _ (by decide))
  have s8 : s.firstLoss = u.firstLoss := before .firstLoss (ha _ (by decide))
  have t1 : v.shedding = t.shedding := after .shedding (hb _ (by decide))
  have t2 : v.passDue = t.passDue := after .passDue (hb _ (by decide))
  have t3 : v.evaluationDue = t.evaluationDue := after .evaluationDue (hb _ (by decide))
  have t4 : v.notices = t.notices := after .notices (hb _ (by decide))
  have t5 : v.lostCount = t.lostCount := after .lostCount (hb _ (by decide))
  have t6 : v.firstLoss = t.firstLoss := after .firstLoss (hb _ (by decide))
  simpa only [LimitAnswered, NoticeRaised, hsheds, hrestarting, s1, s2, s3, s4, s5, s6, s7, s8, t1, t2, t3, t4, t5, t6] using h

/-! ## SUPPLY_LOW -/

/-- The pin with a level, the debounce countdown stopped, and the pin level taken (R31). -/
def State.supplyTook (s : State) (b : Bool) : State := { s with supplyLowPin := b, debounce := none, supplyTaken := b }

theorem supplyTook_frame (s : State) (b : Bool) : Unchanged [.supplyLowPin, .debounce, .supplyTaken] s (s.supplyTook b) := by
  intro f hf; cases f <;> first | rfl | exact absurd (by decide) hf

theorem supplyTook_effectiveLimit (s : State) (b : Bool) :
    (s.supplyTook b).effectiveLimit = if b then s.budget.reducedLimit else s.budget.normalLimit := rfl

theorem takeSupplyLevel_same (h : s.supplyTaken = s.supplyLowPin) : s.takeSupplyLevel = s := if_pos h

theorem takeSupplyLevel_differs {b : Bool} (h : b ≠ s.supplyTaken) :
    ({ s with supplyLowPin := b, debounce := none } : State).takeSupplyLevel =
      (s.supplyTook b).limitSet s.effectiveLimit .supplyLow := if_neg (Ne.symm h)

theorem limitSet_took (s : State) (b : Bool) :
    LimitAnswered .supplyLow s.effectiveLimit (if b then s.budget.reducedLimit else s.budget.normalLimit) s
      ((s.supplyTook b).limitSet s.effectiveLimit .supplyLow) := by
  rw [← supplyTook_effectiveLimit s b]
  exact (limitSet_answered (s.supplyTook b) s.effectiveLimit .supplyLow).between (supplyTook_frame s b) (Unchanged.refl [] _)

theorem execSupplyLowChange_run {b : Bool} (hrun : s.running = true) (hb : b ≠ s.supplyLowPin) :
    exec (.supplyLowChange b) s = .next (if s.budget.debounce = 0 then
      ({ s with supplyLowPin := b, debounce := none } : State).takeSupplyLevel
      else { s with supplyLowPin := b, debounce := some s.budget.debounce }) := by
  have hdue : (s.supplyLowPin != b) = true := bne_iff_ne.mpr (Ne.symm hb)
  show execSupplyLowChange b s = _
  rw [execSupplyLowChange, hdue, quietEvent_due]
  simp only [hrun, if_true]

theorem execSupplyLowDebounceExpiry_run {ms : Nat} (hrun : s.running = true) (hd : s.debounce = some ms) :
    exec .supplyLowDebounceExpiry s = .next ({ s with debounce := none } : State).takeSupplyLevel := by
  have hdue : (s.running && s.debounce.isSome) = true := by rw [hrun, hd]; rfl
  show execSupplyLowDebounceExpiry s = _
  rw [execSupplyLowDebounceExpiry, hdue, quietEvent_due]

/-- Settles O6: the event takes the level by `takeSupplyLevel_differs`, and the arbiter answers by `limitSet_took`. -/
theorem supplyLowIsDebouncedAndTaken : Obligations.SupplyLowIsDebouncedAndTaken := by
  unfold Obligations.SupplyLowIsDebouncedAndTaken
  refine ⟨fun b s hrun hb => ?_, fun ms s hrun hms => ?_⟩
  · rw [execSupplyLowChange_run hrun hb]
    refine ⟨fun hd => by rw [if_neg hd], fun hd ht => ?_, fun hd ht => ?_⟩
    · rw [if_pos hd, takeSupplyLevel_same ht.symm]
    · have f := limitSet_frame (s.supplyTook b) s.effectiveLimit .supplyLow
      rw [if_pos hd, takeSupplyLevel_differs ht]
      exact ⟨_, rfl, (f .supplyLowPin (by decide)).symm, (f .supplyTaken (by decide)).symm, (f .debounce (by decide)).symm,
        limitSet_took s b, (supplyTook_frame s b).andThen f (by decide) (by decide)⟩
  · rw [execSupplyLowDebounceExpiry_run hrun hms]
    refine ⟨fun hp => by rw [takeSupplyLevel_same (s := { s with debounce := none }) hp.symm], fun hp => ?_⟩
    have f := limitSet_frame (s.supplyTook s.supplyLowPin) s.effectiveLimit .supplyLow
    have ftook : Unchanged [.debounce, .supplyTaken] s (s.supplyTook s.supplyLowPin) :=
      (supplyTook_frame s s.supplyLowPin).without .supplyLowPin rfl (by decide)
    have htake := takeSupplyLevel_differs hp
    exact ⟨_, congrArg _ htake, (f .supplyTaken (by decide)).symm, (f .debounce (by decide)).symm,
      limitSet_took s s.supplyLowPin, ftook.andThen f (by decide) (by decide)⟩

/-! ## A write of Budget Settings -/

/-- The frame has left ingress, and Budget Settings are replaced (R150). -/
def State.budgetWritten (s : State) (rest : List (List Byte)) (v : BudgetSettings) : State := { s with ingress := rest, budget := v }

theorem budgetWritten_frame (s : State) (rest : List (List Byte)) (v : BudgetSettings) :
    Unchanged [.ingress, .budget] s (s.budgetWritten rest v) := by
  intro f hf; cases f <;> first | rfl | exact absurd (by decide) hf

theorem budgetWritten_effectiveLimit (s : State) (rest : List (List Byte)) (v : BudgetSettings) :
    (s.budgetWritten rest v).effectiveLimit = if s.supplyTaken then v.reducedLimit else v.normalLimit := rfl

theorem writeBudgetOp_badIndex (c : Taken) {i : Nat} (bytes : List Byte) (h : i ≠ 0) :
    writeBudgetOp c (i, bytes) s = s.respond c .badIndex [] := if_pos h

theorem writeBudgetOp_badValue (c : Taken) {bytes : List Byte} (h : readBudgetSettings bytes = none) :
    writeBudgetOp c (0, bytes) s = s.respond c .badValue [] := by
  simp [writeBudgetOp, h]

theorem writeBudgetOp_stored (c : Taken) (rest : List (List Byte)) {bytes : List Byte} {v : BudgetSettings}
    (h : readBudgetSettings bytes = some v) :
    writeBudgetOp c (0, bytes) { s with ingress := rest } =
      ((s.budgetWritten rest v).limitSet s.effectiveLimit .limitWrite).respond c .ok [] := by
  simp only [writeBudgetOp, h, ne_eq, not_true_eq_false, if_false]
  rfl

/-- Settles O22: the three outcomes of `writeBudgetOp`, the last with the arbiter's answer by `limitSet_answered`. -/
theorem writeBudgetSettingsActsAtOnce : Obligations.WriteBudgetSettingsActsAtOnce := by
  intro i bytes frame rest c s hdue hkind hform hman
  have hexec : exec .writeEntryBudget s = .next (writeBudgetOp c (i, bytes) { s with ingress := rest }) :=
    take_managed s hdue hkind _ hform hman writeBudgetOp
  rw [hexec]
  refine ⟨fun hi => by rw [writeBudgetOp_badIndex c bytes hi, respond_answered], fun hi hv => ?_, fun hi v hv => ?_⟩
  · rw [hi, writeBudgetOp_badValue c hv, respond_answered]
  · have fw := budgetWritten_frame s rest v
    have fl := limitSet_frame (s.budgetWritten rest v) s.effectiveLimit .limitWrite
    have fr := respond_frame ((s.budgetWritten rest v).limitSet s.effectiveLimit .limitWrite) c .ok []
    have fset : Unchanged [.budget, .ingress, .shedding, .evaluationDue, .passDue, .notices, .lostCount, .firstLoss] s
        ((s.budgetWritten rest v).limitSet s.effectiveLimit .limitWrite) := fw.andThen fl (by decide) (by decide)
    have himm : s.immediate = _ := fset .immediate (by decide)
    have hresp : s.responses = _ := fset .responses (by decide)
    rw [hi, writeBudgetOp_stored c rest hv, ← budgetWritten_effectiveLimit s rest v]
    refine ⟨_, rfl, (fl .budget (by decide)).symm, (fl .ingress (by decide)).symm, ?_, ?_, ?_, ?_⟩
    · simp only [State.respond, State.answered, himm]
    · simp only [State.respond, hresp]
    · exact (limitSet_answered (s.budgetWritten rest v) s.effectiveLimit .limitWrite).between fw fr
    · exact fset.andThen fr (by decide) (by decide)

/-! ## The budget report -/

theorem levelCode_eq (l : Level) : levelCode l = if l = .urgent then 0x01 else 0x00 := by cases l <;> rfl

/-- Which entries may be granted (R38), gate by gate. -/
theorem eligible_iff (s : State) (e : WakeEntry) : s.eligible e = true ↔
    (s.profile e.slot).power.present = true ∧
      (s.budget.gate = .opened ∨ s.budget.gate = .priority ∧ e.level = .urgent) := by
  cases hg : s.budget.gate <;> simp [State.eligible, hg]

/-- The eligibility byte of an entry (R186). -/
theorem eligibleByte_eq (s : State) (e : WakeEntry) : byteOf (flagBit 0 (s.eligible e)) =
    if (s.profile e.slot).power.present = true ∧
      (s.budget.gate = .opened ∨ s.budget.gate = .priority ∧ e.level = .urgent) then 0x01 else 0x00 := by
  by_cases h : s.eligible e = true
  · rw [if_pos ((eligible_iff s e).mp h), h]; rfl
  · rw [if_neg (fun h' => h ((eligible_iff s e).mpr h')), Bool.not_eq_true _ |>.mp h]; rfl

/-- Settles O27: the report byte by byte, its entries' level and eligibility by `levelCode_eq` and `eligibleByte_eq`. -/
theorem readBudgetListsArbiterOrder : Obligations.ReadBudgetListsArbiterOrder := by
  intro frame rest c s hdue hkind hform hman item
  have hexec : exec .readBudget s = .next (readBudgetOp c () { s with ingress := rest }) :=
    take_managed s hdue hkind _ hform hman readBudgetOp
  have hitem : s.budgetItem = item := funext fun e => by
    rw [State.budgetItem, levelCode_eq, eligibleByte_eq]
    rfl
  rw [hexec, readBudgetOp, respond_answered, ← hitem, List.append_assoc, ← List.flatMap_append]
  rfl

end Sys2Proof.Machine
end

section
/-! EVALUATION: the bypass, which grants the entry behind a head for which nothing makes room (R42, R48). -/

set_option Elab.async false

namespace Sys2Proof.Machine

variable {s : State} {n : Slot} {head e : WakeEntry}

/-! ## Entries of the wake list -/

/-- No slot has two entries (R33). -/
abbrev State.wakeDistinct (s : State) : Prop := s.wake.Pairwise (fun x y => x.slot ≠ y.slot)

theorem wakeDistinct_inj (hd : s.wakeDistinct) {x y : WakeEntry} (hx : x ∈ s.wake) (hy : y ∈ s.wake) (h : x.slot = y.slot) :
    x = y :=
  List.inj_on_of_nodup_map (List.pairwise_map.mpr hd) hx hy h

theorem wakeEntry_of_mem (hd : s.wakeDistinct) (he : e ∈ s.wake) : s.wakeEntry e.slot = some e := by
  cases hf : s.wakeEntry e.slot with
  | none => exact absurd (beq_self_eq_true e.slot) (List.find?_eq_none.mp hf e he)
  | some x => rw [wakeDistinct_inj hd (List.mem_of_find?_eq_some hf) he (wakeEntry_slot s e.slot hf)]

theorem eligibleOrder_distinct (hd : s.wakeDistinct) : s.eligibleOrder.Pairwise (fun x y => x.slot ≠ y.slot) := by
  refine List.Pairwise.filter _ (List.pairwise_append.mpr ⟨hd.filter _, hd.filter _, fun x hx y hy hxy => ?_⟩)
  obtain ⟨hxw, hxl⟩ := List.mem_filter.mp hx
  obtain ⟨hyw, hyl⟩ := List.mem_filter.mp hy
  rw [wakeDistinct_inj hd hxw hyw hxy, eq_of_beq hyl] at hxl
  exact absurd hxl (by decide)

/-! ## The head that is passed -/

/-- An entry, counted passed if it is the slot's (R48). -/
def WakeEntry.countedFor (n : Slot) (e : WakeEntry) : WakeEntry :=
  if e.slot = n then { e with passed := min 7 (e.passed + 1) } else e

@[simp] theorem countedFor_slot (n : Slot) (e : WakeEntry) : (e.countedFor n).slot = e.slot := by
  unfold WakeEntry.countedFor; split <;> rfl

@[simp] theorem countedFor_level (n : Slot) (e : WakeEntry) : (e.countedFor n).level = e.level := by
  unfold WakeEntry.countedFor; split <;> rfl

theorem countedFor_self (e : WakeEntry) : e.countedFor e.slot = { e with passed := min 7 (e.passed + 1) } := if_pos rfl

theorem countPass_wake (s : State) (n : Slot) : (s.countPass n).wake = s.wake.map (WakeEntry.countedFor n) := rfl

theorem countPass_distinct (hd : s.wakeDistinct) (n : Slot) : (s.countPass n).wakeDistinct := by
  refine List.pairwise_map.mpr (hd.imp (fun {x y} h => ?_))
  have hx : (x.countedFor n).slot = x.slot := countedFor_slot n x
  have hy : (y.countedFor n).slot = y.slot := countedFor_slot n y
  exact fun hxy => h (hx.symm.trans (hxy.trans hy))

/-- A pass changes neither the level nor the eligibility of an entry. -/
theorem countPass_eligibleOrder (s : State) (n : Slot) :
    (s.countPass n).eligibleOrder = s.eligibleOrder.map (WakeEntry.countedFor n) := by
  have hel : (s.countPass n).eligible = s.eligible := rfl
  have hcounted : s.eligible ∘ WakeEntry.countedFor n = s.eligible := funext fun e => by simp [State.eligible]
  simp only [State.eligibleOrder, State.arbiterOrder, countPass_wake, hel, List.filter_append, List.filter_map, List.map_append,
    hcounted]
  simp [Function.comp_def]

/-! ## What a grant leaves of the room that evictions make -/

theorem pendingRelease_resting {r : SlotRecord} (h : r.state.resting = true) : r.pendingRelease = 0 := by
  rcases resting_cases h with h | h <;> simp [SlotRecord.pendingRelease, h]

theorem pendingRelease_comingUp {r : SlotRecord} (h : r.state = .powering ∨ r.state = .waking) (ho : r.switchOff = none) :
    r.pendingRelease = 0 := by
  rcases h with h | h <;> simp [SlotRecord.pendingRelease, h, ho]

/-- A grant takes its slot to POWERING from OFF, and to WAKING from SLUMBER (R5, R9), with no switch-off pending. -/
theorem grant_state (hre : s.restarting = false) (hr : (s.slot n).state.resting = true) :
    ((s.grant n).slot n).state = (if (s.slot n).state = .off then .powering else .waking) ∧
      ((s.grant n).slot n).switchOff = none := by
  rcases resting_cases hr with h | h
  · rw [grant_of_off h, powerUpGrant_slot (s.grantStart n) n hre, if_pos h]
    exact ⟨rfl, rfl⟩
  · rw [grant_of_slumber h, wakeGrant_slot, h]
    exact ⟨rfl, rfl⟩

theorem grant_pendingSum (hre : s.restarting = false) (hr : (s.slot n).state.resting = true) :
    (s.grant n).pendingSum = s.pendingSum := by
  have hsame : ∀ m, ((s.grant n).slot m).pendingRelease = (s.slot m).pendingRelease := fun m => by
    by_cases hm : m = n
    · obtain ⟨hstate, hoff⟩ := grant_state hre hr
      rw [hm, pendingRelease_resting hr, pendingRelease_comingUp ?_ hoff]
      rw [hstate]
      split
      · exact Or.inl rfl
      · exact Or.inr rfl
    · rw [(grant_onlySlot s n m hm).1]
  simp only [State.pendingSum, hsame]

theorem grant_evictionWalk (hg : s.grantsSound) (hr : (s.slot n).state.resting = true) :
    (s.grant n).evictionWalk = s.evictionWalk := by
  have horder : s.useOrder = (s.grant n).useOrder := (grant_frame_resting hg hr) .useOrder (by decide)
  rw [State.evictionWalk, State.evictionWalk, ← horder]
  exact List.filter_congr (fun k _ => ((grant_candidates hg hr k).1).symm)

/-- A resting slot is no candidate, so that a grant to it leaves what the candidates give back. -/
theorem grant_candidateRelease (hr : (s.slot n).state.resting = true) :
    s.evictionWalk.map (s.grant n).candidateRelease = s.evictionWalk.map s.candidateRelease := by
  refine List.map_congr_left (fun k hk => ?_)
  have hcand : s.candidate k = true := (List.mem_filter.mp hk).2
  have hkn : k ≠ n := fun h => by
    rcases candidate_inUse hcand with hs | hs <;> rw [← h, hs] at hr <;> exact Bool.noConfusion hr
  obtain ⟨hslot, -, -, hprofile⟩ := grant_onlySlot s n k hkn
  simp only [State.candidateRelease, hslot, hprofile]

/-- All candidates together do not make room for the entry (R45). -/
def State.noRoom (s : State) (e : WakeEntry) : Prop :=
  s.effectiveLimit + (s.evictionWalk.map s.candidateRelease).sum < s.projected + s.increment e.slot

theorem noRoom_prefix (h : s.noRoom e) : s.evictionPrefix e = none := evictionPrefix_noRoom (not_le.mpr h)

/-- A grant to another slot makes no room: committed weight rises, and no candidate comes to it. -/
theorem grant_noRoom (hre : s.restarting = false) (hg : s.grantsSound) (hr : (s.slot n).state.resting = true)
    (hne : head.slot ≠ n) (h : s.noRoom head) : (s.grant n).noRoom head := by
  obtain ⟨hslot, -, -, hprofile⟩ := grant_onlySlot s n head.slot hne
  have hinc : (s.grant n).increment head.slot = s.increment head.slot := by simp only [State.increment, hslot, hprofile]
  have hcom := grant_committed hg hr
  have hpend := grant_pendingSum hre hr
  unfold State.noRoom State.projected at h ⊢
  rw [grant_evictionWalk hg hr, grant_candidateRelease hr, (grant_frame s n).effectiveLimit, hinc, hcom, hpend]
  omega

theorem grant_notFits (hg : s.grantsSound) (hr : (s.slot n).state.resting = true) (hne : head.slot ≠ n)
    (h : ¬ s.fits head = true) : ¬ (s.grant n).fits head = true := by
  obtain ⟨hslot, -, -, hprofile⟩ := grant_onlySlot s n head.slot hne
  have hinc : (s.grant n).increment head.slot = s.increment head.slot := by simp only [State.increment, hslot, hprofile]
  simp only [State.fits, decide_eq_true_eq, (grant_frame s n).effectiveLimit, hinc, grant_committed hg hr] at h ⊢
  omega

/-! ## The steps of an evaluation with the bypass -/

theorem evaluate_bypass (fuel : Nat) {others : List WakeEntry} (h : s.eligibleOrder = head :: others)
    (hf : ¬ s.fits head = true) (hset : s.evictionSet = []) (hp : s.evictionPrefix head = none)
    (hb : head.passed < s.budget.bypassAllowance) : State.evaluate (fuel + 1) s =
      match others.find? s.fits with
      | some e => State.evaluate fuel ((s.countPass head.slot).grant e.slot)
      | none => s := by
  rw [evaluate_succ, h]
  dsimp only
  rw [if_neg hf, if_neg (by rw [hset]; exact fun h => h rfl), hp]
  exact if_pos hb

/-- A lone entry for which nothing makes room ends the evaluation, whether the bypass is open or not. -/
theorem evaluate_alone (fuel : Nat) (h : s.eligibleOrder = [head]) (hf : ¬ s.fits head = true) (hset : s.evictionSet = [])
    (hp : s.evictionPrefix head = none) : State.evaluate fuel s = s := by
  cases fuel with
  | zero => rfl
  | succ fuel =>
    by_cases hb : head.passed < s.budget.bypassAllowance
    · rw [evaluate_bypass fuel h hf hset hp hb]; rfl
    · exact evaluate_waits fuel h hf hset hp (not_lt.mp hb)

/-! ## The event -/

/-- The head counted passed, and the entry behind it granted. -/
def State.bypassed (s : State) (head e : WakeEntry) : State := (s.undue.countPass head.slot).grant e.slot

theorem bypassed_frame (hg : s.grantsSound) (hr : (s.slot e.slot).state.resting = true) :
    Unchanged [.evaluationDue, .slots, .committed, .wake, .control, .notices, .lostCount, .firstLoss] s (s.bypassed head e) :=
  (((undue_frame s).mono (by decide)).trans ((countPass_frame s.undue head.slot).mono (by decide))).trans
    ((grant_frame_resting (s := s.undue.countPass head.slot) hg hr).mono (by decide))

theorem bypassed_onlySlot (s : State) (head e : WakeEntry) : OnlySlot e.slot s (s.bypassed head e) :=
  grant_onlySlot (s.undue.countPass head.slot) e.slot

theorem bypassed_wake (s : State) (head e : WakeEntry) :
    (s.bypassed head e).wake = (s.wake.map (WakeEntry.countedFor head.slot)).filter (fun x => x.slot != e.slot) :=
  grant_wake (s.undue.countPass head.slot) e.slot

theorem bypassed_unlisted (s : State) (head e : WakeEntry) : (s.bypassed head e).listed e.slot = false := by
  simp [State.listed, bypassed_wake]

theorem bypassed_wakeEntry (hd : s.wakeDistinct) (hmem : head ∈ s.wake) (hne : head.slot ≠ e.slot) :
    (s.bypassed head e).wakeEntry head.slot = some { head with passed := min 7 (head.passed + 1) } := by
  have hd' : (s.bypassed head e).wakeDistinct := by
    rw [State.wakeDistinct, bypassed_wake]
    exact (countPass_distinct hd head.slot).filter _
  have hmem' : head.countedFor head.slot ∈ (s.bypassed head e).wake := by
    rw [bypassed_wake]
    exact List.mem_filter.mpr ⟨List.mem_map_of_mem hmem, by simpa using hne⟩
  have h := wakeEntry_of_mem hd' hmem'
  rwa [countedFor_slot, countedFor_self] at h

theorem bypassed_eligibleOrder (hel : s.eligibleOrder = [head, e]) (hne : head.slot ≠ e.slot) :
    (s.bypassed head e).eligibleOrder = [head.countedFor head.slot] := by
  have hel' : s.undue.eligibleOrder = [head, e] := hel
  rw [State.bypassed, grant_eligibleOrder, countPass_eligibleOrder, hel']
  simp [hne]

/-- The head that is passed still does not fit, and nothing makes room for it: the evaluation ends. -/
theorem bypassed_ends (fuel : Nat) (hre : s.restarting = false) (hg : s.grantsSound) (hset : s.evictionSet = [])
    (hr : (s.slot e.slot).state.resting = true) (hel : s.eligibleOrder = [head, e]) (hne : head.slot ≠ e.slot)
    (hf : ¬ s.fits head = true) (hroom : s.noRoom head) : State.evaluate fuel (s.bypassed head e) = s.bypassed head e := by
  have hne' : (head.countedFor head.slot).slot ≠ e.slot := by rwa [countedFor_slot]
  have hset' : s.evictionSet = (s.bypassed head e).evictionSet := (bypassed_frame hg hr) .evictionSet (by decide)
  refine evaluate_alone fuel (bypassed_eligibleOrder hel hne) ?_ (hset'.symm.trans hset) (noRoom_prefix ?_)
  · refine grant_notFits (s := s.undue.countPass head.slot) hg hr hne' ?_
    rw [State.fits, countedFor_slot]
    exact hf
  · refine grant_noRoom (s := s.undue.countPass head.slot) hre hg hr hne' ?_
    rw [State.noRoom, countedFor_slot]
    exact hroom

theorem bypassed_newCandidate (hg : s.grantsSound) (hr : (s.slot e.slot).state.resting = true) :
    newCandidate s (s.bypassed head e) = false := by
  have h := grant_candidates (s := s.undue.countPass head.slot) hg hr
  exact newCandidate_same s _ (fun k hk => (h k).1.trans hk) (fun k hk => (h k).2.trans hk)

/-- Settles O39: the evaluation by `evaluate_bypass`, and its end after the grant by `bypassed_ends`. -/
theorem bypassGrantPassesTheHead : Obligations.BypassGrantPassesTheHead := by
  intro head e s hrun hdue hsh hre hcl hg hset hd hel hr hbig hroom hpassed
  have hels : s.eligibleOrder = [head, e] := hel
  have hne : head.slot ≠ e.slot :=
    (List.pairwise_cons.mp (hels ▸ eligibleOrder_distinct hd)).1 e List.mem_cons_self
  have hmem : head ∈ s.wake := mem_eligibleOrder (hels ▸ List.mem_cons_self)
  have hf : ¬ s.fits head = true := fun h => absurd (fits_le h) (not_le.mpr hbig)
  have hstep := evaluate_bypass (s := s.undue) s.wake.length hels hf hset (noRoom_prefix (s := s) hroom) hpassed
  rw [evaluation_run hrun hdue hsh hre, hstep]
  refine ⟨fun hfit => ?_, fun hnot => ?_⟩
  · have hfits : s.undue.fits e = true := decide_eq_true hfit
    have f := bypassed_frame (head := head) hg hr
    have hfind : [e].find? s.undue.fits = some e := List.find?_cons_of_pos hfits
    have hend := bypassed_ends s.wake.length hre hg hset hr hels hne hf hroom
    have hfin : s.finish (s.bypassed head e) = s.bypassed head e := by
      rw [finish_notShedding (f.claimsSound hcl) (f.sheds.trans hsh), bypassed_newCandidate hg hr]
      rfl
    obtain ⟨hstate, -⟩ := grant_state (s := s.undue.countPass head.slot) hre hr
    rw [hfind]
    exact ⟨_, congrArg _ ((congrArg s.finish hend).trans hfin), grant_committed (s := s.undue.countPass head.slot) hg hr,
      bypassed_unlisted s head e, hstate, bypassed_wakeEntry hd hmem hne, bypassed_onlySlot s head e, f⟩
  · have hnotfits : ¬ s.undue.fits e = true := fun h => absurd (fits_le (s := s) h) (not_le.mpr hnot)
    have hfind : [e].find? s.undue.fits = none := by simp [hnotfits]
    rw [hfind]
    exact congrArg _ (finish_undue hcl hsh)

end Sys2Proof.Machine
end

section
/-! Committed weight does not rise: the shared operations, and the end of an event (R2, R27). -/

set_option Elab.async false

namespace Sys2Proof.Machine

variable {s t u : State} {n : Slot}

/-! ## The relation of an operation that raises no weight -/

/-- Committed weight is in `t` no higher than in `s`. -/
def Falls (s t : State) : Prop := t.committed ≤ s.committed

/-- Committed weight is the same, as after an update of other fields. -/
theorem Falls.same (h : t.committed = s.committed) : Falls s t := h.le

theorem Falls.refl (s : State) : Falls s s := Falls.same rfl

theorem Falls.trans (h : Falls s t) (k : Falls t u) : Falls s u := le_trans k h

theorem Falls.of_frame {a : List Field} (h : Unchanged a s t) (ha : Field.committed ∉ a := by decide) : Falls s t :=
  Falls.same (h .committed ha : s.committed = _).symm

theorem Falls.ite {p : Prop} [Decidable p] (h : p → Falls s t) (k : ¬ p → Falls s u) : Falls s (if p then t else u) := by
  split
  · exact h ‹_›
  · exact k ‹_›

theorem Falls.foldl {α : Type} {op : State → α → State} (h : ∀ s x, Falls s (op s x)) :
    ∀ (l : List α) (s : State), Falls s (l.foldl op s)
  | [], s => Falls.refl s
  | x :: l, s => (h s x).trans (Falls.foldl h l (op s x))

/-! ## The change of a slot's state -/

theorem changeState_falls (s : State) (n : Slot) (new : SlotState) (x : List Byte) : Falls s (s.changeState n new x) := by
  rw [Falls, changeState_committed]
  exact Nat.sub_le _ _

/-! ## Records that join, and attention actions -/

theorem endAction_falls (s : State) (n : Slot) (st : Status) (d : List Byte) (h : Bool) : Falls s (s.endAction n st d h) :=
  Falls.of_frame (endAction_frame s n st d h)

theorem gainReason_falls (s : State) (n : Slot) (why : WakeReason) (l : Level) : Falls s (s.gainReason n why l) :=
  Falls.of_frame (gainReason_frame s n why l)

theorem withdrawReason_falls (s : State) (n : Slot) (why : WakeReason) : Falls s (s.withdrawReason n why) :=
  Falls.of_frame (withdrawReason_frame s n why)

theorem cancelDrain_falls (s : State) (n : Slot) : Falls s (s.cancelDrain n) := by
  have hc := changeState_falls s n .awake []
  dsimp only [State.cancelDrain]
  exact Falls.ite (fun _ => hc.trans (endAction_falls _ n _ _ _)) (fun _ => hc)

theorem joinQueue_falls (s : State) (n : Slot) (r : Record) : Falls s (s.joinQueue n r) := by
  have h : Falls s (s.setQueue n (s.queue n ++ [r])) := Falls.same rfl
  dsimp only [State.joinQueue]
  split
  · exact Falls.same rfl
  · exact Falls.ite (fun _ => h.trans (cancelDrain_falls _ n)) (fun _ => h)
  · exact h.trans (gainReason_falls _ n _ _)
  · exact h.trans (gainReason_falls _ n _ _)
  · exact h
  · exact h
  · exact h
  · exact h

theorem createFetch_falls (s : State) (n : Slot) : Falls s (s.createFetch n) := joinQueue_falls _ n _

theorem serveClaims_falls (s : State) : Falls s s.serveClaims := Falls.foldl createFetch_falls _ { s with claims := _ }

theorem startAction_falls (s : State) (n : Slot) : Falls s (s.startAction n) := by
  have hw : Falls s (s.setAtt n { s.att n with phase := .waitingAwake }) := Falls.same rfl
  dsimp only [State.startAction]
  split
  · exact Falls.refl s
  · exact endAction_falls s n _ _ _
  · split
    · exact endAction_falls s n _ _ _
    · exact hw.trans (gainReason_falls _ n _ _)
    · exact hw
    · exact hw
    · exact hw
    · exact hw
    · exact hw
    · exact hw
  · exact Falls.ite (fun _ => createFetch_falls s n) (fun _ => Falls.same rfl)

theorem activation_falls (s : State) (n : Slot) : Falls s (s.activation n) := by
  unfold State.activation
  split
  · exact Falls.ite (fun _ => Falls.refl s) (fun _ => startAction_falls (s.setAtt n _) n)
  · exact Falls.refl s
  · exact Falls.same rfl
  · exact Falls.same rfl
  · exact Falls.same rfl

/-! ## Coming to rest, and faults -/

theorem enterOff_falls (s : State) (n : Slot) (x : Bool) : Falls s (s.enterOff n x) :=
  ((changeState_falls s n .off []).trans (Falls.of_frame (attentionAtOff_frame _ n))).trans
    (Falls.of_frame (gainAtRest_frame _ n x))

theorem enterSlumber_falls (s : State) (n : Slot) (x : Bool) : Falls s (s.enterSlumber n x) := by
  have h : Falls s ((s.changeState n .slumber []).gainAtRest n x) :=
    (changeState_falls s n .slumber []).trans (Falls.of_frame (gainAtRest_frame _ n x))
  dsimp only [State.enterSlumber]
  exact Falls.ite (fun _ => h.trans (gainReason_falls _ n _ _)) (fun _ => h)

theorem towardsRest_falls (s : State) (n : Slot) : Falls s (s.towardsRest n) := by
  unfold State.towardsRest
  split
  · split
    · exact enterOff_falls s n _
    · exact Falls.of_frame (askControl_frame s n _)
  · exact Falls.refl s

theorem startDrain_falls (s : State) (n : Slot) (c : DrainCause) (m : RestMode) : Falls s (s.startDrain n c m) :=
  (changeState_falls s n .draining _).trans (towardsRest_falls (State.setSlot _ n _) n)

theorem switchOff_falls (s : State) (n : Slot) (k : SwitchOffKind) : Falls s (s.switchOff n k) := by
  unfold State.switchOff
  exact Falls.ite (fun _ => Falls.same rfl) (fun _ => enterOff_falls s n _)

theorem enterFaulted_falls (s : State) (n : Slot) (k : FaultKind) : Falls s (s.enterFaulted n k) := by
  unfold State.enterFaulted
  refine Falls.trans ?_ (Falls.of_frame (reportFault_frame _ n _ _ _ _))
  refine Falls.trans ?_ (Falls.of_frame (attentionAtFault_frame _ n))
  refine Falls.trans ?_ (Falls.of_frame (completeAll_frame _ _ _ _))
  refine Falls.trans ?_ (Falls.of_frame (setQueue_frame _ n _))
  refine Falls.trans ?_ (Falls.of_frame (setAtt_frame _ n _))
  exact (changeState_falls s n .faulted []).trans (Falls.of_frame (removeEntry_frame _ n))

/-! ## The end of an event -/

theorem finish_falls (s t : State) : Falls t (s.finish t) := by
  dsimp only [State.finish]
  have hite : ∀ {p : Prop} [Decidable p] {u v : State}, Falls t u → Falls u v → Falls t (if p then v else u) :=
    fun hu huv => Falls.ite (fun _ => hu.trans huv) (fun _ => hu)
  refine hite (hite (hite (serveClaims_falls t) ?_) ?_) ?_
  · exact Falls.of_frame (markEvaluation_frame _)
  · exact Falls.of_frame (markPass_frame _)
  · exact Falls.of_frame (endShedding_frame _ _)

theorem event_falls {due : Bool} {effect : State → State} (h : event due s effect = .next t) (he : Falls s (effect s)) :
    Falls s t := by
  injection h with h
  subst h
  exact Falls.ite (fun _ => he.trans (finish_falls s _)) (fun _ => Falls.refl s)

theorem quietEvent_falls {due : Bool} {effect : State → State} (h : quietEvent due s effect = .next t)
    (he : Falls s (effect s)) : Falls s t := by
  injection h with h
  subst h
  exact Falls.ite (fun _ => he) (fun _ => Falls.refl s)

/-! ## Takes -/

theorem respond_falls (s : State) (c : Taken) (st : Status) (d : List Byte) : Falls s (s.respond c st d) := Falls.same rfl

theorem take_falls {α : Type} {k : TakeKind} {form : List Byte → Option α} {carry : Taken → α → State → State}
    (hc : ∀ c a s, Falls s (carry c a s)) (h : take k form carry s = .next t) : Falls s t := by
  injection h with h
  subst h
  split
  · exact Falls.refl s
  · unfold commonChecks
    split
    · exact Falls.same rfl
    · exact Falls.ite (fun _ => Falls.same rfl) (fun _ => Falls.ite (fun _ => Falls.same rfl)
        (fun _ => hc _ _ { s with ingress := s.ingress.tail }))

theorem manage_falls {α : Type} {op : Taken → α → State → State} (hop : ∀ c a s, Falls s (op c a s)) (c : Taken) (a : α)
    (s : State) : Falls s (manage op c a s) := by
  unfold manage
  exact Falls.ite (fun _ => Falls.same rfl) (fun _ => hop c a s)

theorem withSlot_falls {op : Taken → Slot → State → State} (hop : ∀ c n s, Falls s (op c n s)) (c : Taken) (b : Byte)
    (s : State) : Falls s (withSlot op c b s) := by
  unfold withSlot
  split
  · exact Falls.same rfl
  · exact hop c _ s

/-- An operation, its answer, and the end of the event. -/
theorem finishRespond_falls (h : Falls s t) (c : Taken) (st : Status) (d : List Byte) : Falls s (s.finish (t.respond c st d)) :=
  h.trans (finish_falls s (t.respond c st d))

end Sys2Proof.Machine
end

section
/-! Committed weight does not rise: the selection pass, the chain, the lines, and the operations of the requests. -/

set_option Elab.async false

namespace Sys2Proof.Machine

variable {s t u : State} {n : Slot}

/-! ## The Budget Arbiter's drains -/

theorem evict_falls (s : State) (n : Slot) : Falls s (s.evict n) := by
  unfold State.evict
  exact Falls.ite (fun _ => Falls.same rfl) (fun _ => startDrain_falls s n _ _)

theorem shedSlot_falls (s : State) (n : Slot) : Falls s (s.shedSlot n) := by
  unfold State.shedSlot
  split
  · exact Falls.same rfl
  · exact startDrain_falls s n _ _
  · exact switchOff_falls s n _
  · exact switchOff_falls s n _
  · exact switchOff_falls s n _
  · exact Falls.refl s
  · exact Falls.refl s
  · exact Falls.refl s

theorem selectVictim_falls (s : State) (n : Slot) : Falls s (s.selectVictim n) := shedSlot_falls s n

theorem selectVictims_falls : ∀ (fuel : Nat) (s : State), Falls s (State.selectVictims fuel s)
  | 0, s => Falls.refl s
  | fuel + 1, s => by
    rw [selectVictims_succ]
    refine Falls.ite (fun _ => Falls.refl s) (fun _ => ?_)
    split
    · exact Falls.refl s
    · rename_i n _ _
      exact Falls.ite (fun _ => (selectVictim_falls s n).trans (Falls.of_frame (endShedding_frame _ _)))
        (fun _ => (selectVictim_falls s n).trans (selectVictims_falls fuel _))

/-! ## The chain -/

theorem startControl_falls (s : State) (c : ControlEntry) (rest : List ControlEntry) : Falls s (s.startControl c rest) := by
  dsimp only [State.startControl]
  exact Falls.ite (fun _ => changeState_falls { s with control := rest, exchange := some (controlExchange c) } _ _ _)
    (fun _ => Falls.same rfl)

theorem dispatch_falls (s : State) (n : Slot) : Falls s (s.dispatch n) := by
  unfold State.dispatch
  split
  · exact Falls.refl s
  · exact Falls.same rfl

theorem select_falls (s : State) : Falls s s.select := by
  unfold State.select
  split
  · exact startControl_falls s _ _
  · split
    · exact dispatch_falls s _
    · exact Falls.refl s

theorem retry_falls (s : State) (e : Exchange) : Falls s (s.retry e) := by
  have h := Falls.of_frame (resent_frame s e)
  rw [retry_eq]
  exact Falls.ite (fun _ => h) (fun _ => h.trans (Falls.of_frame (countRetry_frame _ _)))

theorem dataEnd_falls (s : State) (n : Slot) (o : AttemptOutcome) : Falls s (s.dataEnd n o) := by
  cases hq : s.queue n with
  | nil => rw [dataEnd_nil o hq]; exact Falls.refl s
  | cons r rest =>
    rw [dataEnd_cons o hq]
    have h : Falls s (((s.setQueue n rest).handOff r (outcomeStatus o) (readData r o) true).used n) :=
      (Falls.of_frame (handOff_frame (s.setQueue n rest) r _ _ _)).trans (Falls.of_frame (used_frame _ n))
    exact Falls.ite (fun _ => h.trans (towardsRest_falls _ n)) (fun _ => h.trans (Falls.of_frame (startIdleHold_frame _ n)))

theorem beginSensing_falls (s : State) (n : Slot) : Falls s (s.beginSensing n) := by
  dsimp only [State.beginSensing]
  exact Falls.ite (fun _ => activation_falls (s.setAtt n _) n) (fun _ => Falls.same rfl)

theorem enterAwake_falls (s : State) (n : Slot) (d : List Byte) : Falls s (s.enterAwake n d) := by
  have hc := changeState_falls s n .awake d
  dsimp only [State.enterAwake]
  refine Falls.trans ?_ (Falls.of_frame (startIdleHold_frame _ n))
  refine Falls.ite (fun _ => hc.trans (beginSensing_falls _ n)) (fun _ => ?_)
  exact Falls.ite (fun _ => hc.trans (endAction_falls _ n _ _ _)) (fun _ => hc)

theorem identifyEnd_falls (s : State) (n : Slot) (o : AttemptOutcome) : Falls s (s.identifyEnd n o) := by
  dsimp only [State.identifyEnd]
  split
  · exact enterOff_falls s n _
  · split
    · exact Falls.ite (fun _ => enterAwake_falls s n _) (fun _ => enterFaulted_falls s n _)
    · split
      · exact enterFaulted_falls s n _
      · exact Falls.of_frame (loadPoll_frame s n _ _)

theorem wakeEnd_falls (s : State) (n : Slot) : Falls s (s.wakeEnd n) := by
  dsimp only [State.wakeEnd]
  split
  · exact enterOff_falls s n _
  · exact enterFaulted_falls s n _
  · exact Falls.of_frame (loadPoll_frame s n _ _)

theorem slumberEnd_falls (s : State) (n : Slot) (o : AttemptOutcome) : Falls s (s.slumberEnd n o) := by
  unfold State.slumberEnd
  split
  · exact Falls.refl s
  · split
    · exact enterSlumber_falls s n _
    · exact (enterOff_falls s n _).trans (Falls.of_frame (reportFault_frame _ n _ _ _ _))
    · exact enterOff_falls s n _

theorem exchangeEnd_falls (s : State) (e : Exchange) (o : AttemptOutcome) : Falls s (s.exchangeEnd e o) := by
  rw [exchangeEnd_eq]
  split
  · exact dataEnd_falls s.freed _ o
  · exact dataEnd_falls s.freed _ o
  · exact slumberEnd_falls s.freed _ o
  · exact wakeEnd_falls s.freed _
  · exact identifyEnd_falls s.freed _ o

theorem attemptEnd_falls (s : State) (e : Exchange) (o : AttemptOutcome) : Falls s (s.attemptEnd e o) := by
  rw [attemptEnd_eq]
  exact Falls.ite (fun _ => enterFaulted_falls (s.counted e o).freed _ _) (fun _ => Falls.ite
    (fun _ => retry_falls (s.counted e o) e) (fun _ => exchangeEnd_falls (s.counted e o) e o))

/-! ## Attention lines -/

theorem deactivation_falls (s : State) (n : Slot) : Falls s (s.deactivation n) := by
  unfold State.deactivation
  split
  · exact Falls.same rfl
  · exact Falls.same rfl
  · exact Falls.same rfl
  · exact withdrawReason_falls s n _
  · exact Falls.same rfl

theorem lineChange_falls (s : State) (n : Slot) (active : Bool) : Falls s (s.lineChange n active) := by
  dsimp only [State.lineChange]
  split
  · exact activation_falls (s.setAtt n _) n
  · exact Falls.same rfl
  · exact deactivation_falls (s.setAtt n _) n

/-! ## Requests -/

theorem admitData_falls (c : Taken) (q : DataRequest) (s : State) : Falls s (admitData c q s) := by
  unfold admitData
  split
  · exact Falls.same rfl
  · have h := joinQueue_falls s
    exact Falls.trans (Falls.ite (fun _ => (h _ _).trans (respond_falls _ _ _ _)) (fun _ => h _ _)) (finish_falls s _)

theorem readEntryOp_falls (c : Taken) (a : Table × Nat) (s : State) : Falls s (readEntryOp c a s) := by
  unfold readEntryOp
  split <;> exact Falls.same rfl

theorem readSlotOp_falls (c : Taken) (n : Slot) (s : State) : Falls s (readSlotOp c n s) := respond_falls s c _ _

theorem readQueueOp_falls (c : Taken) (n : Slot) (s : State) : Falls s (readQueueOp c n s) := respond_falls s c _ _

theorem readBudgetOp_falls (c : Taken) (a : Unit) (s : State) : Falls s (readBudgetOp c a s) := respond_falls s c _ _

theorem restartOp_falls (c : Taken) (a : Unit) (s : State) : Falls s (restartOp c a s) := Falls.same rfl

theorem findUnitOp_falls (c : Taken) (unit : Nat) (s : State) : Falls s (findUnitOp c unit s) := by
  unfold findUnitOp
  split <;> exact Falls.same rfl

theorem writeUnitOp_falls (c : Taken) (a : Nat × List Byte) (s : State) : Falls s (writeUnitOp c a s) := by
  unfold writeUnitOp
  split
  · split
    · exact Falls.same rfl
    · exact Falls.ite (fun _ => Falls.same rfl) (fun _ => Falls.same rfl)
  · exact Falls.same rfl

theorem writeRequesterOp_falls (c : Taken) (a : Nat × List Byte) (s : State) : Falls s (writeRequesterOp c a s) := by
  unfold writeRequesterOp
  split
  · split
    · exact Falls.same rfl
    · exact Falls.ite (fun _ => Falls.same rfl) (fun _ => Falls.same rfl)
  · exact Falls.same rfl

theorem idleHoldWritten_falls (s : State) (n : Slot) (old : Nat) : Falls s (s.idleHoldWritten n old) := by
  unfold State.idleHoldWritten
  exact Falls.ite (fun _ => Falls.refl s) (fun _ => Falls.ite (fun _ => Falls.same rfl)
    (fun _ => Falls.of_frame (startIdleHold_frame s n)))

theorem storeProfile_falls (s : State) (n : Slot) (p : Profile) : Falls s (s.storeProfile n p) := by
  have h : Falls s (State.idleHoldWritten { s with profiles := s.profiles.set n p } n (s.profile n).idleHold) :=
    idleHoldWritten_falls { s with profiles := s.profiles.set n p } n _
  dsimp only [State.storeProfile]
  exact Falls.ite (fun _ => h.trans (Falls.of_frame (markEvaluation_frame _))) (fun _ => h)

theorem writeProfileOp_falls (c : Taken) (a : Nat × List Byte) (s : State) : Falls s (writeProfileOp c a s) := by
  unfold writeProfileOp
  split
  · split
    · exact Falls.same rfl
    · exact Falls.ite (fun _ => Falls.same rfl) (fun _ => storeProfile_falls s _ _)
  · exact Falls.same rfl

theorem writeChainOp_falls (c : Taken) (a : Nat × List Byte) (s : State) : Falls s (writeChainOp c a s) := by
  unfold writeChainOp
  refine Falls.ite (fun _ => Falls.same rfl) (fun _ => ?_)
  split <;> exact Falls.same rfl

theorem writeBudgetOp_falls (c : Taken) (a : Nat × List Byte) (s : State) : Falls s (writeBudgetOp c a s) := by
  unfold writeBudgetOp
  refine Falls.ite (fun _ => Falls.same rfl) (fun _ => ?_)
  split
  · exact Falls.same rfl
  · rename_i v _
    have h := Falls.of_frame (limitSet_frame { s with budget := v } s.effectiveLimit .limitWrite)
    exact h

theorem takeSupplyLevel_falls (s : State) : Falls s s.takeSupplyLevel := by
  unfold State.takeSupplyLevel
  have h := Falls.of_frame (limitSet_frame { s with supplyTaken := s.supplyLowPin } s.effectiveLimit .supplyLow)
  exact Falls.ite (fun _ => Falls.refl s) (fun _ => h)

theorem readFaultOp_falls (c : Taken) (a : Unit) (s : State) : Falls s (readFaultOp c a s) := by
  unfold readFaultOp
  split <;> exact Falls.same rfl

theorem clearFaultOp_falls (c : Taken) (serial : Byte) (s : State) : Falls s (clearFaultOp c serial s) := by
  unfold clearFaultOp
  exact Falls.ite (fun _ => Falls.same rfl) (fun _ => Falls.ite (fun _ => Falls.same rfl) (fun _ => Falls.same rfl))

/-! ## Slot commands -/

theorem slotWakeOp_falls (c : Taken) (a : Byte × Byte) (s : State) : Falls s (slotWakeOp c a s) := by
  unfold slotWakeOp
  split
  · exact Falls.same rfl
  · exact Falls.same rfl
  · exact Falls.ite (fun _ => Falls.same rfl) (fun _ => Falls.ite (fun _ => Falls.same rfl) (fun _ => Falls.ite
      (fun _ => gainReason_falls s _ _ _) (fun _ => Falls.same rfl)))

theorem slotRestOp_falls (c : Taken) (n : Slot) (s : State) : Falls s (slotRestOp c n s) := by
  unfold slotRestOp
  exact Falls.ite (fun _ => Falls.ite (fun _ => finishRespond_falls (startDrain_falls s n _ _) c _ _) (fun _ => Falls.same rfl))
    (fun _ => Falls.same rfl)

theorem attentionOff_falls (s : State) (n : Slot) : Falls s (s.attentionOff n) := by
  unfold State.attentionOff
  split
  · exact Falls.refl s
  · exact Falls.refl s
  · exact Falls.same rfl
  · exact endAction_falls { s with claims := _ } n _ _ _
  · exact endAction_falls s n _ _ _

theorem residencyOff_falls (s : State) (n : Slot) : Falls s (s.residencyOff n) := by
  unfold State.residencyOff
  split
  · exact Falls.refl s
  · exact Falls.refl s
  · exact switchOff_falls s n _
  · exact switchOff_falls s n _
  · exact switchOff_falls s n _
  · exact startDrain_falls s n _ _
  · exact towardsRest_falls { s.retargetOff n with control := _ } n
  · exact Falls.same rfl

theorem slotOffOp_falls (c : Taken) (n : Slot) (s : State) : Falls s (slotOffOp c n s) := by
  have habort : Falls s (s.abortQueued n) :=
    (Falls.of_frame (setQueue_frame s n _)).trans (Falls.of_frame (completeAll_frame _ _ _ _))
  have h : Falls s ((((s.abortQueued n).attentionOff n).removeEntry n).residencyOff n) :=
    ((habort.trans (attentionOff_falls _ n)).trans (Falls.of_frame (removeEntry_frame _ n))).trans (residencyOff_falls _ n)
  dsimp only [slotOffOp]
  exact finishRespond_falls (Falls.ite (fun _ => h.trans (Falls.of_frame (markPass_frame _))) (fun _ => h)) c _ _

theorem pinSlot_falls (s : State) (n : Slot) : Falls s (s.pinSlot n) := by
  have h : Falls s (s.setSlot n { s.slot n with pin := true }) := Falls.same rfl
  dsimp only [State.pinSlot]
  split
  · exact h.trans (gainReason_falls _ n _ _)
  · exact h.trans (gainReason_falls _ n _ _)
  · exact Falls.same rfl
  · exact Falls.ite (fun _ => h.trans (cancelDrain_falls _ n)) (fun _ => h)
  · exact h
  · exact h
  · exact h
  · exact h

theorem unpinSlot_falls (s : State) (n : Slot) : Falls s (s.unpinSlot n) := by
  have h : Falls s (s.setSlot n { s.slot n with pin := false }) := Falls.same rfl
  dsimp only [State.unpinSlot]
  split
  · exact h.trans (withdrawReason_falls _ n _)
  · exact h.trans (withdrawReason_falls _ n _)
  · exact h.trans (Falls.of_frame (startIdleHold_frame _ n))
  · exact h
  · exact h
  · exact h
  · exact h
  · exact h

theorem pinOp_falls (c : Taken) (n : Slot) (s : State) : Falls s (pinOp c n s) := by
  unfold pinOp
  exact Falls.ite (fun _ => Falls.same rfl) (fun _ => finishRespond_falls (pinSlot_falls s n) c _ _)

theorem unpinOp_falls (c : Taken) (n : Slot) (s : State) : Falls s (unpinOp c n s) := by
  unfold unpinOp
  exact Falls.ite (fun _ => finishRespond_falls (unpinSlot_falls s n) c _ _) (fun _ => Falls.same rfl)

theorem clearSlot_falls (s : State) (n : Slot) : Falls s (s.clearSlot n) := by
  have h := changeState_falls s n .off []
  dsimp only [State.clearSlot]
  exact Falls.ite (fun _ => h.trans (gainReason_falls (State.setSlot _ n _) n _ _)) (fun _ => h)

theorem slotClearOp_falls (c : Taken) (n : Slot) (s : State) : Falls s (slotClearOp c n s) := by
  unfold slotClearOp
  exact Falls.ite (fun _ => finishRespond_falls (clearSlot_falls s n) c _ _) (fun _ => Falls.same rfl)

end Sys2Proof.Machine
end

section
/-! Committed weight rises in an evaluation only, and there within the effective limit (R27, R42). -/

set_option Elab.async false

namespace Sys2Proof.Machine

variable {s t u : State} {n : Slot}

/-! ## The commands other than EVALUATION -/

theorem execAtnChange_falls {active : Bool} (h : execAtnChange n active s = .next t) : Falls s t := by
  unfold execAtnChange at h
  split at h
  · injection h with h; subst h; exact Falls.refl s
  · split at h
    · injection h with h; subst h
      exact (lineChange_falls { s with atnLines := s.atnLines.set n active } n active).trans (finish_falls _ _)
    · injection h with h; subst h; exact Falls.same rfl

theorem execAttentionHoldoffExpiry_falls (h : execAttentionHoldoffExpiry n s = .next t) : Falls s t :=
  event_falls h (Falls.ite (fun _ => startAction_falls (State.setAtt (s.setAtt n _) n _) n) (fun _ => Falls.same rfl))

theorem execSupplyLowChange_falls {b : Bool} (h : execSupplyLowChange b s = .next t) : Falls s t :=
  quietEvent_falls h (Falls.ite (fun _ => Falls.ite
    (fun _ => takeSupplyLevel_falls { s with supplyLowPin := b, debounce := none }) (fun _ => Falls.same rfl))
    (fun _ => Falls.same rfl))

theorem execSupplyLowDebounceExpiry_falls (h : execSupplyLowDebounceExpiry s = .next t) : Falls s t :=
  quietEvent_falls h (takeSupplyLevel_falls { s with debounce := none })

theorem execStepCountdownExpiry_falls (h : execStepCountdownExpiry n s = .next t) : Falls s t :=
  event_falls h ((Falls.of_frame (setSlot_frame s n _)).trans (Falls.of_frame (askControl_frame _ n .identify)))

theorem execLimitCountdownExpiry_falls (h : execLimitCountdownExpiry n s = .next t) : Falls s t :=
  event_falls h (Falls.ite (fun _ => Falls.same rfl) (fun _ => enterFaulted_falls s n _))

theorem execIdleHoldExpiry_falls (h : execIdleHoldExpiry n s = .next t) : Falls s t :=
  event_falls h (startDrain_falls s n _ _)

theorem queueLeft_falls (s : State) (n : Slot) : Falls s (s.queueLeft n) := by
  unfold State.queueLeft
  refine Falls.ite (fun _ => ?_) (fun _ => Falls.refl s)
  split
  · exact Falls.of_frame (startIdleHold_frame s n)
  · exact withdrawReason_falls s n _
  · exact withdrawReason_falls s n _
  · exact Falls.refl s
  · exact Falls.refl s
  · exact Falls.refl s
  · exact Falls.refl s
  · exact Falls.refl s

theorem execLifetimeExpiry_falls {r : Requester} {tag : Byte} (h : execLifetimeExpiry r tag s = .next t) : Falls s t := by
  unfold execLifetimeExpiry at h
  split at h
  · injection h with h; subst h; exact Falls.refl s
  · exact event_falls h ((Falls.of_frame (handOff_frame (s.setQueue _ _) _ _ _ _)).trans (queueLeft_falls _ _))

theorem execResponseTimeoutExpiry_falls (h : execResponseTimeoutExpiry s = .next t) : Falls s t := by
  unfold execResponseTimeoutExpiry at h
  split at h
  · injection h with h; subst h; exact Falls.refl s
  · refine event_falls h ?_
    split
    · exact Falls.refl s
    · exact attemptEnd_falls s _ _
    · exact attemptEnd_falls s _ _

theorem execReplyEnd_falls {bytes : List Byte} (h : execReplyEnd bytes s = .next t) : Falls s t := by
  unfold execReplyEnd at h
  split at h
  · injection h with h; subst h; exact Falls.refl s
  · exact event_falls h (attemptEnd_falls s _ _)

theorem execColdReset_falls {cause : ResetCause} (h : execColdReset cause s = .next t) : Falls s t := by
  injection h with h
  subst h
  exact Nat.zero_le _

theorem execRestartCompletion_falls (h : execRestartCompletion s = .next t) : Falls s t := by
  injection h with h
  subst h
  split
  · exact Nat.zero_le _
  · exact Falls.refl s

theorem execTransmissionEnd_falls (h : execTransmissionEnd s = .next t) : Falls s t := by
  injection h with h
  subst h
  split
  · exact (Falls.of_frame (responseSent_frame s)).trans (finish_falls s _)
  · exact Falls.of_frame (noticeSent_frame s)
  · exact Falls.refl s

theorem execFrameReceptionStart_falls (h : execFrameReceptionStart s = .next t) : Falls s t := by
  refine quietEvent_falls h ?_
  split
  · exact Falls.same rfl
  · exact Falls.of_frame (raiseLink_frame s _)

theorem execFrameArrival_falls {bytes : List Byte} (h : execFrameArrival bytes s = .next t) : Falls s t :=
  quietEvent_falls h (Falls.of_frame (receptionEnd_frame s bytes))

theorem execOutputChoice_falls (h : execOutputChoice s = .next t) : Falls s t :=
  quietEvent_falls h (Falls.of_frame (choose_frame s))

theorem execTimeBaseAdvance_falls (h : execTimeBaseAdvance s = .next t) : Falls s t := quietEvent_falls h (Falls.same rfl)

theorem execCommandSent_falls (h : execCommandSent s = .next t) : Falls s t := quietEvent_falls h (Falls.same rfl)

theorem execReplyStart_falls (h : execReplyStart s = .next t) : Falls s t := quietEvent_falls h (Falls.same rfl)

theorem execReplyByteReceived_falls (h : execReplyByteReceived s = .next t) : Falls s t := quietEvent_falls h (Falls.same rfl)

theorem execChainSelection_falls (h : execChainSelection s = .next t) : Falls s t := event_falls h (select_falls s)

theorem execSelectionPass_falls (h : execSelectionPass s = .next t) : Falls s t :=
  event_falls h (selectVictims_falls 25 { s with passDue := false })

theorem exec_falls (c : Instr) (hc : c ≠ .evaluation) (h : exec c s = .next t) : Falls s t := by
  cases c with
  | evaluation => exact absurd rfl hc
  | coldReset => exact execColdReset_falls h
  | start => exact Falls.of_frame (execStart_frame h)
  | timeBaseAdvance => exact execTimeBaseAdvance_falls h
  | supplyLowChange => exact execSupplyLowChange_falls h
  | supplyLowDebounceExpiry => exact execSupplyLowDebounceExpiry_falls h
  | atnChange => exact execAtnChange_falls h
  | attentionHoldoffExpiry => exact execAttentionHoldoffExpiry_falls h
  | frameArrival => exact execFrameArrival_falls h
  | read => exact take_falls admitData_falls h
  | write => exact take_falls admitData_falls h
  | writePosted => exact take_falls admitData_falls h
  | readEntry => exact take_falls (manage_falls readEntryOp_falls) h
  | writeEntryUnit => exact take_falls (manage_falls writeUnitOp_falls) h
  | writeEntryRequester => exact take_falls (manage_falls writeRequesterOp_falls) h
  | writeEntryProfile => exact take_falls (manage_falls writeProfileOp_falls) h
  | writeEntryChain => exact take_falls (manage_falls writeChainOp_falls) h
  | writeEntryBudget => exact take_falls (manage_falls writeBudgetOp_falls) h
  | findUnit => exact take_falls (manage_falls findUnitOp_falls) h
  | readSlot => exact take_falls (manage_falls (withSlot_falls readSlotOp_falls)) h
  | readQueue => exact take_falls (manage_falls (withSlot_falls readQueueOp_falls)) h
  | readBudget => exact take_falls (manage_falls readBudgetOp_falls) h
  | slotWake => exact take_falls (manage_falls slotWakeOp_falls) h
  | slotRest => exact take_falls (manage_falls (withSlot_falls slotRestOp_falls)) h
  | slotOff => exact take_falls (manage_falls (withSlot_falls slotOffOp_falls)) h
  | pin => exact take_falls (manage_falls (withSlot_falls pinOp_falls)) h
  | unpin => exact take_falls (manage_falls (withSlot_falls unpinOp_falls)) h
  | slotClear => exact take_falls (manage_falls (withSlot_falls slotClearOp_falls)) h
  | readFault => exact take_falls (manage_falls readFaultOp_falls) h
  | clearFault => exact take_falls (manage_falls clearFaultOp_falls) h
  | restart => exact take_falls (manage_falls restartOp_falls) h
  | restartCompletion => exact execRestartCompletion_falls h
  | selectionPass => exact execSelectionPass_falls h
  | stepCountdownExpiry => exact execStepCountdownExpiry_falls h
  | limitCountdownExpiry => exact execLimitCountdownExpiry_falls h
  | idleHoldExpiry => exact execIdleHoldExpiry_falls h
  | lifetimeExpiry => exact execLifetimeExpiry_falls h
  | chainSelection => exact execChainSelection_falls h
  | commandSent => exact execCommandSent_falls h
  | replyStart => exact execReplyStart_falls h
  | responseTimeoutExpiry => exact execResponseTimeoutExpiry_falls h
  | replyEnd => exact execReplyEnd_falls h
  | outputChoice => exact execOutputChoice_falls h
  | transmissionEnd => exact execTransmissionEnd_falls h
  | frameReceptionStart => exact execFrameReceptionStart_falls h
  | replyByteReceived => exact execReplyByteReceived_falls h

/-! ## Grants -/

theorem powerUpGrant_falls (s : State) (n : Slot) : Falls s (s.powerUpGrant n) :=
  ((changeState_falls (s.setSlot n _) n .powering []).trans (Falls.of_frame (setSlot_frame _ n _))).trans
    (Falls.of_frame (loadPoll_frame _ n _ _))

theorem wakeGrant_falls (s : State) (n : Slot) : Falls s (s.wakeGrant n) :=
  ((changeState_falls s n .waking []).trans (Falls.of_frame (setSlot_frame _ n _))).trans
    (Falls.of_frame (askControl_frame _ n _))

/-- A grant raises committed weight by no more than its increment (R42). -/
theorem grant_committed_le (s : State) (n : Slot) : (s.grant n).committed ≤ s.committed + s.increment n := by
  have hstart : (s.grantStart n).committed = s.committed + s.increment n := rfl
  rw [← hstart]
  by_cases hr : (s.slot n).state.resting = true
  · rcases resting_cases hr with h | h
    · rw [grant_of_off h]; exact powerUpGrant_falls _ n
    · rw [grant_of_slumber h]; exact wakeGrant_falls _ n
  · rw [grant_of_notResting (by simpa using hr)]

/-! ## Evaluation -/

/-- Committed weight has not risen beyond the effective limit, which has stayed as it was. -/
def RisesWithin (s t : State) : Prop :=
  t.effectiveLimit = s.effectiveLimit ∧ t.committed ≤ max s.committed s.effectiveLimit

theorem RisesWithin.refl (s : State) : RisesWithin s s := ⟨rfl, le_max_left _ _⟩

theorem RisesWithin.trans (h : RisesWithin s t) (k : RisesWithin t u) : RisesWithin s u := by
  obtain ⟨h1, h2⟩ := h
  obtain ⟨k1, k2⟩ := k
  rw [h1] at k1 k2
  exact ⟨k1, by omega⟩

theorem Falls.risesWithin (h : Falls s t) (hl : t.effectiveLimit = s.effectiveLimit) : RisesWithin s t :=
  ⟨hl, le_max_of_le_left h⟩

theorem grant_risesWithin (hfit : s.committed + s.increment n ≤ s.effectiveLimit) : RisesWithin s (s.grant n) :=
  ⟨(grant_frame s n).effectiveLimit, le_max_of_le_right ((grant_committed_le s n).trans hfit)⟩

theorem evictAll_risesWithin (ns : List Slot) (s : State) : RisesWithin s (ns.foldl State.evict s) :=
  (Falls.foldl evict_falls ns s).risesWithin (Unchanged.foldl evict_frame ns s).effectiveLimit

theorem evaluate_risesWithin : ∀ (fuel : Nat) (s : State), RisesWithin s (State.evaluate fuel s)
  | 0, s => RisesWithin.refl s
  | fuel + 1, s => by
    rw [evaluate_succ]
    split
    · exact RisesWithin.refl s
    · rename_i head others _
      split
      · rename_i hfit
        exact (grant_risesWithin (fits_le hfit)).trans (evaluate_risesWithin fuel _)
      · split
        · exact RisesWithin.refl s
        · split
          · rename_i ns _
            exact evictAll_risesWithin ns { s with evictionSet := ns }
          · split
            · split
              · rename_i e he
                have hfit : (s.countPass head.slot).fits e = true := List.find?_some he
                have hgrant : RisesWithin s ((s.countPass head.slot).grant e.slot) := grant_risesWithin (fits_le hfit)
                exact hgrant.trans (evaluate_risesWithin fuel _)
              · exact RisesWithin.refl s
            · exact RisesWithin.refl s

theorem execEvaluation_bounded (h : exec .evaluation s = .next t) : t.committed ≤ max s.committed s.effectiveLimit := by
  injection h with h
  subst h
  split
  · exact le_trans (finish_falls s _) (evaluate_risesWithin _ s.undue).2
  · exact le_max_left _ _

/-- Settles O40: every other command by `exec_falls`, and the evaluation by `execEvaluation_bounded`. -/
theorem committedRisesOnlyWithinTheLimit : Obligations.CommittedRisesOnlyWithinTheLimit := by
  intro c s t h hrise
  by_cases hc : c = .evaluation
  · subst hc
    exact ⟨rfl, (le_max_iff.mp (execEvaluation_bounded h)).resolve_left (not_le.mpr hrise)⟩
  · exact absurd (exec_falls c hc h) (not_le.mpr hrise)

end Sys2Proof.Machine
end

section
/-! The live records as a multiset of owners and tags: what each shared operation adds to it or takes from it (R69, R70, R73, R77). -/

set_option Elab.async false

namespace Sys2Proof.Machine

variable {s t u : State} {n : Slot}

/-! ## Owners and tags of the live records -/

/-- What tells the live records of requesters apart (R73). -/
def Record.key (r : Record) : Owner × Option Byte := (r.owner, r.tag)

/-- The owners and tags of the live records, in no order. -/
def State.keys (s : State) : Multiset (Owner × Option Byte) := (s.liveRecords.map Record.key : List _)

/-- The owners and tags of a list of records. -/
def keysOf (rs : List Record) : Multiset (Owner × Option Byte) := (rs.map Record.key : List _)

theorem keys_eq (s : State) :
    s.keys = keysOf s.queues.toList.flatten + keysOf (s.responses.filterMap ResponseItem.record?) := by
  simp [State.keys, keysOf, State.liveRecords]

theorem keysOf_cons (r : Record) (rs : List Record) : keysOf (r :: rs) = {r.key} + keysOf rs := rfl

theorem keysOf_append (rs qs : List Record) : keysOf (rs ++ qs) = keysOf rs + keysOf qs := by simp [keysOf]

theorem keysOf_perm {rs qs : List Record} (h : rs.Perm qs) : keysOf rs = keysOf qs := Multiset.coe_eq_coe.mpr (h.map _)

theorem keys_card (s : State) : s.keys.card = s.liveTotal := by simp [State.keys, State.liveTotal]

theorem keys_countP (s : State) (r : Requester) : s.keys.countP (fun k => k.1 = .requester r) = s.liveCount r := by
  simp only [State.keys, Multiset.coe_countP, List.countP_map, State.liveCount]
  rfl

theorem tagInUse_iff (s : State) (r : Requester) (tag : Byte) :
    s.tagInUse r tag = true ↔ (.requester r, some tag) ∈ s.keys := by
  simp [State.tagInUse, State.keys, Record.key]

/-- The owners and tags of the records that requesters own. -/
def State.requesterKeys (s : State) : Multiset (Owner × Option Byte) := s.keys.filter (fun k => k.1 ≠ .attention)

theorem tagsDistinct_iff (s : State) : s.tagsDistinct ↔ s.requesterKeys.Nodup := by
  have hdistinct : ∀ x y : Record, (x.owner = y.owner → x.owner ≠ .attention → x.tag ≠ y.tag) ↔
      (x.key.1 ≠ .attention → y.key.1 ≠ .attention → x.key ≠ y.key) := fun x y => by
    simp only [Record.key, ne_eq, Prod.mk.injEq, not_and]
    refine ⟨fun h hx _ ho => h ho hx, fun h ho hx => h hx (ho ▸ hx) ho⟩
  simp only [State.tagsDistinct, State.requesterKeys, State.keys, Multiset.filter_coe, Multiset.coe_nodup, List.Nodup,
    List.pairwise_filter, List.pairwise_map, hdistinct, decide_eq_true_eq]

/-! ## The operations on queues and responses -/

theorem Unchanged.keys {a : List Field} (h : Unchanged a s t) (hq : Field.queues ∉ a := by decide)
    (hr : Field.responses ∉ a := by decide) : t.keys = s.keys := by
  rw [keys_eq, keys_eq, (h .queues hq : s.queues = _), (h .responses hr : s.responses = _)]

theorem flatten_keys (qs : List (List Record)) {i : Nat} (h : i < qs.length) :
    keysOf qs.flatten = keysOf qs[i] + keysOf (qs.eraseIdx i).flatten := by
  rw [← keysOf_append, ← List.flatten_cons]
  exact keysOf_perm (List.getElem_cons_eraseIdx_perm h).flatten.symm

/-- A queue set anew, stated without subtraction. -/
theorem setQueue_keys (s : State) (n : Slot) (q : List Record) :
    (s.setQueue n q).keys + keysOf (s.queue n) = s.keys + keysOf q := by
  have hlen : n.val < s.queues.toList.length := by simp
  have hold := flatten_keys s.queues.toList hlen
  have hnew := flatten_keys (s.queues.toList.set n q) (by simp : n.val < (s.queues.toList.set n q).length)
  rw [List.getElem_set_self, List.eraseIdx_set_eq] at hnew
  have hqueue : s.queues.toList[n.val] = s.queue n := by simp [State.queue]
  have hqueues : (s.setQueue n q).queues.toList = s.queues.toList.set n q := Vector.toList_set (h := n.isLt)
  rw [keys_eq, keys_eq, hqueues, hnew, hold, hqueue, setQueue_responses]
  abel

/-- A record that completes waits for its response, or is freed (R87). -/
theorem handOff_keys (s : State) (r : Record) (st : Status) (d : List Byte) (h : Bool) :
    (s.handOff r st d h).keys ≤ s.keys + {r.key} := by
  have hq : s.queues = _ := (handOff_frame s r st d h) .queues (by decide)
  have hone : keysOf ((handedOn r st d).filterMap ResponseItem.record?) ≤ {r.key} := by
    unfold handedOn
    split
    · exact le_rfl
    · exact Multiset.zero_le _
  rw [keys_eq, keys_eq, ← hq, handOff_responses, List.filterMap_append, keysOf_append, ← add_assoc]
  exact add_le_add_right hone _

theorem completeAll_keys (st : Record → Status) (h : Bool) : ∀ (rs : List Record) (s : State),
    (s.completeAll rs st h).keys ≤ s.keys + keysOf rs
  | [], s => le_self_add
  | r :: rs, s => calc
      ((s.handOff r (st r) [] h).completeAll rs st h).keys ≤ (s.handOff r (st r) [] h).keys + keysOf rs :=
        completeAll_keys st h rs _
      _ ≤ s.keys + {r.key} + keysOf rs := add_le_add_left (handOff_keys s r (st r) [] h) _
      _ = s.keys + keysOf (r :: rs) := by rw [keysOf_cons, add_assoc]

/-- Records that leave a queue. -/
theorem setQueue_keys_left {q rs : List Record} (h : (rs ++ q).Perm (s.queue n)) :
    (s.setQueue n q).keys + keysOf rs = s.keys := by
  have hset := setQueue_keys s n q
  rw [← keysOf_perm h, keysOf_append, ← add_assoc] at hset
  exact add_right_cancel hset

/-- Records that leave a queue and complete are live no more than before (R87). -/
theorem completed_keys {q rs : List Record} (h : (rs ++ q).Perm (s.queue n)) (st : Record → Status) (b : Bool) :
    ((s.setQueue n q).completeAll rs st b).keys ≤ s.keys :=
  (completeAll_keys st b rs _).trans (setQueue_keys_left h).le

theorem handedOff_keys {r : Record} {q : List Record} (h : (r :: q).Perm (s.queue n)) (st : Status) (d : List Byte) (b : Bool) :
    ((s.setQueue n q).handOff r st d b).keys ≤ s.keys :=
  (handOff_keys _ r st d b).trans (setQueue_keys_left (rs := [r]) h).le

/-- A record replaced by one of the same owner and tag. -/
theorem setQueue_keys_same {q : List Record} (h : q.map Record.key = (s.queue n).map Record.key) :
    (s.setQueue n q).keys = s.keys := by
  have hset := setQueue_keys s n q
  rw [show keysOf q = keysOf (s.queue n) by rw [keysOf, keysOf, h]] at hset
  exact add_right_cancel hset

/-- An answer in the response queue is no live record. -/
theorem answered_keys {e : Fin 16} (hq : t.queues = s.queues) (hr : t.responses = s.responses ++ [.immediate e]) :
    t.keys = s.keys := by
  have hanswer : [ResponseItem.immediate e].filterMap ResponseItem.record? = [] := rfl
  rw [keys_eq, keys_eq, hr, hq, List.filterMap_append, hanswer, List.append_nil]

theorem respond_keys (s : State) (c : Taken) (st : Status) (d : List Byte) : (s.respond c st d).keys = s.keys :=
  answered_keys (e := c.entry) rfl rfl

theorem joinQueue_keys (s : State) (n : Slot) (r : Record) : (s.joinQueue n r).keys = {r.key} + s.keys := by
  have hset : (s.setQueue n (s.queue n ++ [r])).keys = {r.key} + s.keys := by
    have h := setQueue_keys s n (s.queue n ++ [r])
    rw [keysOf_append, ← add_assoc, add_right_comm] at h
    rw [add_right_cancel h, add_comm]
    rfl
  have hcancel : ∀ v : State, (v.cancelDrain n).keys = v.keys := fun v => by
    unfold State.cancelDrain
    dsimp only
    split
    · rw [(endAction_frame _ n _ _ _).keys, (changeState_frame v n .awake []).keys]
    · exact (changeState_frame v n .awake []).keys
  rw [← hset]
  dsimp only [State.joinQueue]
  split
  · exact (setSlot_frame _ n _).keys
  · split
    · exact hcancel _
    · rfl
  · exact (gainReason_frame _ n _ _).keys
  · exact (gainReason_frame _ n _ _).keys
  all_goals rfl

theorem createFetch_keys (s : State) (n : Slot) : (s.createFetch n).keys = {(.attention, none)} + s.keys :=
  joinQueue_keys (s.updateAtt n _) n _

theorem createFetch_liveTotal (s : State) (n : Slot) : (s.createFetch n).liveTotal = s.liveTotal + 1 := by
  rw [← keys_card, createFetch_keys, Multiset.card_add, Multiset.card_singleton, keys_card, add_comm]

end Sys2Proof.Machine
end

section
/-! The laws of the record pool: the relation of an operation that keeps them, and the shared operations (R69, R70, R73, R77, R83,
R87). -/

set_option Elab.async false

namespace Sys2Proof.Machine

variable {P : Prop} {s t u : State} {n : Slot}

/-! ## The law of the dispatched records, slot by slot -/

/-- The states in which a data exchange can be in flight for a slot (R83, R87). -/
def SlotState.Serving (st : SlotState) : Prop := st = .awake ∨ st = .draining

/-- The law of the dispatched records for one slot (R83, R87). -/
def State.DispatchAt (s : State) (m : Slot) : Prop :=
  (∀ r ∈ (s.queue m).tail, r.state = .queued) ∧ ∀ r ∈ (s.queue m).take 1, r.state ≠ .queued →
    r.state = .dispatched ∧ (s.slot m).state.Serving ∧ s.exchange.map (fun e => (e.slot, e.command)) = some (m, commandOf r.op)

theorem dispatchesSound_iff (s : State) : s.dispatchesSound ↔ ∀ m, s.DispatchAt m := Iff.rfl

theorem dispatchAt_of_queued (h : ∀ r ∈ s.queue n, r.state = .queued) : s.DispatchAt n :=
  ⟨fun r hr => h r (List.mem_of_mem_tail hr), fun r hr hne => absurd (h r (List.mem_of_mem_take hr)) hne⟩

/-- The queue of a slot is as it was, and where an exchange is in flight for the slot, this exchange and the slot serve on. -/
theorem dispatchAt_kept (h : s.dispatchesSound) (hq : t.queue n = s.queue n)
    (hk : s.inFlight n = true → t.exchange = s.exchange ∧ ((s.slot n).state.Serving → (t.slot n).state.Serving)) :
    t.DispatchAt n := by
  cases hf : s.inFlight n with
  | false => exact dispatchAt_of_queued (fun r hr => dispatchesSound_queued s h hf r (hq ▸ hr))
  | true =>
    obtain ⟨hx, hs⟩ := hk hf
    obtain ⟨htail, hhead⟩ := h n
    rw [State.DispatchAt, hq, hx]
    exact ⟨htail, fun r hr hne => ⟨(hhead r hr hne).1, hs (hhead r hr hne).2.1, (hhead r hr hne).2.2⟩⟩

/-! ## The relation of an operation that keeps the laws -/

/-- From `s` to `t` the laws of the record pool are kept, each by itself; and under `P` the pointer of the chain's turns stays
(R109), which a selection and a cold reset move. -/
structure KeepsPool (P : Prop) (s t : State) : Prop where
  bounded : s.recordsBounded → t.recordsBounded
  tags : s.tagsDistinct → t.tagsDistinct
  queues : s.queuesSound → t.queuesSound
  dispatches : s.dispatchesSound → t.dispatchesSound
  pointer : P → t.roundRobin = s.roundRobin

theorem KeepsPool.refl (P : Prop) (s : State) : KeepsPool P s s := ⟨id, id, id, id, fun _ => rfl⟩

theorem KeepsPool.trans (h : KeepsPool P s t) (k : KeepsPool P t u) : KeepsPool P s u :=
  ⟨k.bounded ∘ h.bounded, k.tags ∘ h.tags, k.queues ∘ h.queues, k.dispatches ∘ h.dispatches,
    fun p => (k.pointer p).trans (h.pointer p)⟩

theorem KeepsPool.ite {p : Prop} [Decidable p] (h : p → KeepsPool P s t) (k : ¬ p → KeepsPool P s u) :
    KeepsPool P s (if p then t else u) := by
  split
  · exact h ‹_›
  · exact k ‹_›

theorem KeepsPool.foldl {α : Type} {op : State → α → State} (h : ∀ s x, KeepsPool P s (op s x)) :
    ∀ (l : List α) (s : State), KeepsPool P s (l.foldl op s)
  | [], s => KeepsPool.refl P s
  | x :: l, s => (h s x).trans (KeepsPool.foldl h l (op s x))

theorem recordsBounded_of_keys (h : t.keys ≤ s.keys) (hr : t.requesters = s.requesters) (hb : s.recordsBounded) :
    t.recordsBounded := by
  obtain ⟨htotal, hcount⟩ := hb
  refine ⟨?_, fun r => ?_⟩
  · rw [← keys_card] at htotal ⊢
    exact (Multiset.card_le_card h).trans htotal
  · rw [State.requester, hr]
    refine le_trans ?_ (hcount r)
    rw [← keys_countP, ← keys_countP]
    exact Multiset.countP_le_of_le _ h

theorem tagsDistinct_of_keys (h : t.keys ≤ s.keys) (hd : s.tagsDistinct) : t.tagsDistinct := by
  rw [tagsDistinct_iff] at hd ⊢
  exact Multiset.nodup_of_le (Multiset.filter_le_filter _ h) hd

/-- An operation that adds no live record. -/
theorem KeepsPool.of_keys (h : t.keys ≤ s.keys) (hr : t.requesters = s.requesters) (hp : t.roundRobin = s.roundRobin)
    (hq : s.queuesSound → t.queuesSound) (hd : s.dispatchesSound → t.dispatchesSound) : KeepsPool P s t :=
  ⟨recordsBounded_of_keys h hr, tagsDistinct_of_keys h, hq, hd, fun _ => hp⟩

/-- The fields that the laws read. -/
abbrev pooledFields : List Field := [.slots, .requesters, .queues, .exchange, .responses, .roundRobin]

/-- An operation on slots that leaves the records and the exchange alone: a slot for which an exchange is in flight serves on. -/
theorem KeepsPool.of_slots {a : List Field} (f : Unchanged a s t)
    (hs : ∀ m, s.inFlight m = true → (s.slot m).state.Serving → (t.slot m).state.Serving)
    (ha : ∀ f ∈ pooledFields, f ≠ .slots → f ∉ a := by decide) : KeepsPool P s t := by
  have hqueue : ∀ m, t.queue m = s.queue m := fun m => f.queue m (ha _ (by decide) (by decide))
  have hx : s.exchange = t.exchange := f .exchange (ha _ (by decide) (by decide))
  refine KeepsPool.of_keys (f.keys (ha _ (by decide) (by decide)) (ha _ (by decide) (by decide))).le
    (f .requesters (ha _ (by decide) (by decide)) : s.requesters = _).symm
    (f .roundRobin (ha _ (by decide) (by decide)) : s.roundRobin = _).symm
    (fun h m r hr => h m r (hqueue m ▸ hr)) (fun h m => dispatchAt_kept h (hqueue m) (fun hf => ⟨hx.symm, hs m hf⟩))

/-- An operation that leaves alone every field the laws read. -/
theorem KeepsPool.of_frame {a : List Field} (f : Unchanged a s t) (ha : ∀ f ∈ pooledFields, f ∉ a := by decide) :
    KeepsPool P s t :=
  KeepsPool.of_slots f (fun m _ h => by rwa [f.slot m (ha _ (by decide))]) (fun f hf _ => ha f hf)

/-- An operation on one slot that leaves the records and the exchange alone. -/
theorem KeepsPool.of_onlySlot {a : List Field} (f : Unchanged a s t) (ho : OnlySlot n s t)
    (hs : s.inFlight n = true → (s.slot n).state.Serving → (t.slot n).state.Serving)
    (ha : ∀ f ∈ pooledFields, f ≠ .slots → f ∉ a := by decide) : KeepsPool P s t := by
  refine KeepsPool.of_slots f (fun m hf h => ?_) ha
  by_cases hm : m = n
  · subst hm; exact hs hf h
  · rw [(ho m hm).1]; exact h

/-- An operation on the queue of one slot whose records that stay are the slot's own; any exchange in flight for another slot goes
on, and so does the other slot. -/
theorem KeepsPool.of_queue (hk : t.keys ≤ s.keys) (hr : t.requesters = s.requesters) (hp : t.roundRobin = s.roundRobin)
    (hother : ∀ m, m ≠ n → t.queue m = s.queue m ∧
      (s.inFlight m = true → t.exchange = s.exchange ∧ ((s.slot m).state.Serving → (t.slot m).state.Serving)))
    (hslot : ∀ r ∈ t.queue n, ∃ x ∈ s.queue n, x.slot = r.slot) (hself : s.dispatchesSound → t.DispatchAt n) :
    KeepsPool P s t := by
  refine KeepsPool.of_keys hk hr hp (fun h m r hrm => ?_) (fun h m => ?_)
  · by_cases hm : m = n
    · subst hm
      obtain ⟨x, hx, hxr⟩ := hslot r hrm
      exact hxr ▸ h m x hx
    · exact h m r ((hother m hm).1 ▸ hrm)
  · by_cases hm : m = n
    · subst hm; exact hself h
    · exact dispatchAt_kept h (hother m hm).1 (hother m hm).2

/-! ## Changes of state -/

theorem setSlot_pool (s : State) (n : Slot) (r : SlotRecord) (hr : r.state = (s.slot n).state) : KeepsPool P s (s.setSlot n r) :=
  KeepsPool.of_onlySlot (setSlot_frame s n r) (setSlot_onlySlot s n r) (fun _ h => by rw [setSlot_slot_self, hr]; exact h)

/-- The slot serves on in its new state, or it serves nothing now. -/
def State.MayLeave (s : State) (n : Slot) (new : SlotState) : Prop :=
  new.Serving ∨ ¬ (s.slot n).state.Serving ∨ s.inFlight n = false

theorem mayLeave_of_state {new : SlotState} (h1 : (s.slot n).state ≠ .awake) (h2 : (s.slot n).state ≠ .draining) :
    s.MayLeave n new := Or.inr (Or.inl (fun h => h.elim h1 h2))

theorem State.MayLeave.serving {new : SlotState} (h : s.MayLeave n new) (hf : s.inFlight n = true) (hs : (s.slot n).state.Serving) :
    new.Serving := by
  rcases h with h | h | h
  · exact h
  · exact absurd hs h
  · rw [h] at hf; exact Bool.noConfusion hf

theorem changeState_pool (s : State) (n : Slot) (new : SlotState) (x : List Byte) (h : s.MayLeave n new) :
    KeepsPool P s (s.changeState n new x) :=
  KeepsPool.of_onlySlot (changeState_frame s n new x) (changeState_onlySlot s n new x)
    (fun hf hs => by rw [changeState_slot_self]; exact h.serving hf hs)

theorem enterOff_pool (s : State) (n : Slot) (x : Bool) (h : s.MayLeave n .off) : KeepsPool P s (s.enterOff n x) :=
  KeepsPool.of_onlySlot (enterOff_frame_fine s n x) (enterOff_onlySlot s n x)
    (fun hf hs => by rw [enterOff_slot]; exact h.serving hf hs)

theorem gainReason_pool (s : State) (n : Slot) (why : WakeReason) (l : Level) : KeepsPool P s (s.gainReason n why l) :=
  KeepsPool.of_frame (gainReason_frame s n why l)

theorem withdrawReason_pool (s : State) (n : Slot) (why : WakeReason) : KeepsPool P s (s.withdrawReason n why) :=
  KeepsPool.of_frame (withdrawReason_frame s n why)

theorem setAtt_pool (s : State) (n : Slot) (a : AttentionRecord) : KeepsPool P s (s.setAtt n a) :=
  KeepsPool.of_frame (setAtt_frame s n a)

theorem endAction_pool (s : State) (n : Slot) (st : Status) (d : List Byte) (h : Bool) : KeepsPool P s (s.endAction n st d h) :=
  KeepsPool.of_frame (endAction_frame s n st d h)

theorem askControl_pool (s : State) (n : Slot) (c : ChainCommand) : KeepsPool P s (s.askControl n c) :=
  KeepsPool.of_frame (askControl_frame s n c)

theorem startIdleHold_pool (s : State) (n : Slot) : KeepsPool P s (s.startIdleHold n) := by
  unfold State.startIdleHold
  exact KeepsPool.ite (fun _ => setSlot_pool s n _ rfl) (fun _ => KeepsPool.refl P s)

theorem loadPoll_pool (s : State) (n : Slot) (p : StepPurpose) (ms : Nat) : KeepsPool P s (s.loadPoll n p ms) := by
  unfold State.loadPoll
  exact KeepsPool.ite (fun _ => KeepsPool.refl P s) (fun _ => KeepsPool.ite (fun _ => askControl_pool s n _)
    (fun _ => setSlot_pool s n _ rfl))

theorem enterSlumber_pool (s : State) (n : Slot) (x : Bool) (h : s.MayLeave n .slumber) : KeepsPool P s (s.enterSlumber n x) := by
  have hrest : KeepsPool P s ((s.changeState n .slumber []).gainAtRest n x) :=
    (changeState_pool s n .slumber [] h).trans (KeepsPool.of_frame (gainAtRest_frame _ n x))
  unfold State.enterSlumber
  exact KeepsPool.ite (fun _ => hrest.trans (gainReason_pool _ n _ _)) (fun _ => hrest)

theorem towardsRest_pool (s : State) (n : Slot) : KeepsPool P s (s.towardsRest n) := by
  unfold State.towardsRest
  split
  · rename_i hf
    split
    · exact enterOff_pool s n _ (Or.inr (Or.inr hf))
    · exact askControl_pool s n _
  · exact KeepsPool.refl P s

theorem startDrain_pool (s : State) (n : Slot) (c : DrainCause) (m : RestMode) : KeepsPool P s (s.startDrain n c m) := by
  unfold State.startDrain
  refine KeepsPool.trans (KeepsPool.trans ?_ (setSlot_pool _ n _ ?_)) (towardsRest_pool _ n)
  · exact changeState_pool s n .draining _ (Or.inl (Or.inr rfl))
  · rfl

theorem switchOff_pool (s : State) (n : Slot) (k : SwitchOffKind) : KeepsPool P s (s.switchOff n k) := by
  unfold State.switchOff
  refine KeepsPool.ite (fun _ => setSlot_pool s n _ rfl) (fun h => enterOff_pool s n _ ?_)
  by_cases hs : (s.slot n).state = .slumber
  · exact mayLeave_of_state (by rw [hs]; decide) (by rw [hs]; decide)
  · exact Or.inr (Or.inr (by simpa [hs] using h))

theorem cancelDrain_pool (s : State) (n : Slot) : KeepsPool P s (s.cancelDrain n) := by
  have hc : KeepsPool P s (s.changeState n .awake []) := changeState_pool s n .awake [] (Or.inl (Or.inl rfl))
  unfold State.cancelDrain
  exact KeepsPool.ite (fun _ => hc.trans (endAction_pool _ n _ _ _)) (fun _ => hc)

/-! ## Records that join -/

/-- What a record that has joined does to its slot (R81). -/
theorem joinedQueue_pool (s : State) (n : Slot) (r : Record) :
    KeepsPool P (s.setQueue n (s.queue n ++ [r])) (s.joinQueue n r) := by
  dsimp only [State.joinQueue]
  split
  · exact setSlot_pool _ n _ rfl
  · exact KeepsPool.ite (fun _ => cancelDrain_pool _ n) (fun _ => KeepsPool.refl P _)
  · exact gainReason_pool _ n _ _
  · exact gainReason_pool _ n _ _
  all_goals exact KeepsPool.refl P _

theorem setQueue_append_queuesSound {r : Record} (hr : r.slot = n) (h : s.queuesSound) :
    (s.setQueue n (s.queue n ++ [r])).queuesSound := fun m x hx => by
  by_cases hm : m = n
  · subst hm
    rw [setQueue_queue_self] at hx
    rcases List.mem_append.mp hx with hx | hx
    · exact h m x hx
    · rw [List.mem_singleton.mp hx]; exact hr
  · rw [setQueue_queue_other s n m _ hm] at hx
    exact h m x hx

theorem setQueue_append_dispatchesSound {r : Record} (hr : r.state = .queued) (h : s.dispatchesSound) :
    (s.setQueue n (s.queue n ++ [r])).dispatchesSound := fun m => by
  by_cases hm : m = n
  · subst hm
    obtain ⟨htail, hhead⟩ := h m
    rw [setQueue_queue_self]
    cases hq : s.queue m with
    | nil => simp [hr]
    | cons x rest =>
      rw [hq] at htail hhead
      refine ⟨fun y hy => ?_, fun y hy => hhead y (by simpa using hy)⟩
      rcases List.mem_append.mp (by simpa using hy : y ∈ rest ++ [r]) with hy | hy
      · exact htail y hy
      · rw [List.mem_singleton.mp hy]; exact hr
  · exact dispatchAt_kept h (setQueue_queue_other s n m _ hm) (fun _ => ⟨rfl, id⟩)

theorem liveCount_join {r : Record} (hk : t.keys = {r.key} + s.keys) (q : Requester) :
    t.liveCount q = (if r.owner = .requester q then 1 else 0) + s.liveCount q := by
  rw [← keys_countP, hk, Multiset.countP_add, keys_countP, ← Multiset.cons_zero, Multiset.countP_cons]
  by_cases ho : r.owner = .requester q <;> simp [Record.key, ho]

theorem recordsBounded_join {r : Record} (hfree : s.liveTotal < Config.poolSize)
    (hlimit : ∀ q, r.owner = .requester q → s.liveCount q < (s.requester q).limit) (hk : t.keys = {r.key} + s.keys)
    (hr : t.requesters = s.requesters) (h : s.recordsBounded) : t.recordsBounded := by
  refine ⟨?_, fun q => ?_⟩
  · rw [← keys_card, hk, Multiset.card_add, Multiset.card_singleton, keys_card]
    omega
  · have hreq : t.requester q = s.requester q := by simp only [State.requester, hr]
    have hq := h.2 q
    rw [hreq, liveCount_join hk]
    split
    · rename_i ho
      have := hlimit q ho
      omega
    · omega

theorem tagsDistinct_join {r : Record} (htag : r.owner ≠ .attention → r.key ∉ s.keys) (hk : t.keys = {r.key} + s.keys)
    (h : s.tagsDistinct) : t.tagsDistinct := by
  rw [tagsDistinct_iff] at h ⊢
  rw [State.requesterKeys, hk, Multiset.singleton_add, Multiset.filter_cons]
  split
  · rename_i ho
    exact Multiset.nodup_cons.mpr ⟨fun hmem => htag ho (Multiset.mem_of_mem_filter hmem), h⟩
  · rw [zero_add]; exact h

/-- A QUEUED record joins the queue of its slot: the pool has a free record, its requester is below its limit, and its tag is not
in use (R73, R77, R79). -/
theorem joinQueue_pool {r : Record} (hslot : r.slot = n) (hst : r.state = .queued) (hfree : s.liveTotal < Config.poolSize)
    (hlimit : ∀ q, r.owner = .requester q → s.liveCount q < (s.requester q).limit)
    (htag : r.owner ≠ .attention → r.key ∉ s.keys) : KeepsPool P s (s.joinQueue n r) := by
  have f := joinQueue_frame s n r
  have hk := joinQueue_keys s n r
  have after := joinedQueue_pool (P := P) s n r
  exact ⟨recordsBounded_join hfree hlimit hk (f .requesters (by decide) : s.requesters = _).symm, tagsDistinct_join htag hk,
    fun h => after.queues (setQueue_append_queuesSound hslot h), fun h => after.dispatches (setQueue_append_dispatchesSound hst h),
    fun _ => (f .roundRobin (by decide) : s.roundRobin = _).symm⟩

theorem createFetch_pool (s : State) (n : Slot) (hfree : s.liveTotal < Config.poolSize) : KeepsPool P s (s.createFetch n) := by
  have f := setAtt_frame s n { s.att n with phase := .fetching }
  refine (setAtt_pool s n _).trans (joinQueue_pool rfl rfl ?_ (fun q h => ?_) (fun h => absurd rfl h))
  · rw [f.liveTotal]; exact hfree
  · exact absurd h (by simp [State.fetchRecord])

theorem createFetches_pool : ∀ (l : List Slot) (s : State), l.length ≤ Config.poolSize - s.liveTotal →
    KeepsPool P s (l.foldl (fun s n => s.createFetch n) s)
  | [], s, _ => KeepsPool.refl P s
  | n :: l, s, h => by
    rw [List.length_cons] at h
    refine (createFetch_pool s n (by omega)).trans (createFetches_pool l _ ?_)
    rw [createFetch_liveTotal]
    omega

theorem serveClaims_pool (s : State) : KeepsPool P s s.serveClaims := by
  have f := setClaims_frame s (s.claims.drop (Config.poolSize - s.liveTotal))
  refine (KeepsPool.of_frame f).trans (createFetches_pool _ _ ?_)
  rw [f.liveTotal]
  exact List.length_take_le _ _

theorem startAction_pool (s : State) (n : Slot) : KeepsPool P s (s.startAction n) := by
  have hwait : KeepsPool P s (s.setAtt n { s.att n with phase := .waitingAwake }) := setAtt_pool s n _
  dsimp only [State.startAction]
  split
  · exact KeepsPool.refl P s
  · exact endAction_pool s n _ _ _
  · split
    · exact endAction_pool s n _ _ _
    · exact hwait.trans (gainReason_pool _ n _ _)
    all_goals exact hwait
  · exact KeepsPool.ite (fun h => createFetch_pool s n h)
      (fun _ => (setAtt_pool s n _).trans (KeepsPool.of_frame (setClaims_frame _ _)))

theorem activation_pool (s : State) (n : Slot) : KeepsPool P s (s.activation n) := by
  unfold State.activation
  split
  · exact KeepsPool.ite (fun _ => KeepsPool.refl P s) (fun _ => (setAtt_pool s n _).trans (startAction_pool _ n))
  · exact KeepsPool.refl P s
  all_goals exact setAtt_pool s n _

/-! ## Faults -/

/-- The first half of the entry to FAULTED: the slot has left its state, and its queue has been taken from it (R22). -/
def State.faultBegun (s : State) (n : Slot) : State :=
  (((s.changeState n .faulted []).removeEntry n).updateAtt n
    (fun a => { a with sensing := false, lastLevel := none, senseRead := none }))

theorem faultBegun_frame (s : State) (n : Slot) : Unchanged [.slots, .useOrder, .committed, .evictionSet, .evaluationDue, .control,
    .notices, .lostCount, .firstLoss, .wake, .attention] s (s.faultBegun n) :=
  (((changeState_frame s n .faulted []).mono (by decide)).trans ((removeEntry_frame _ n).mono (by decide))).trans
    ((setAtt_frame _ n _).mono (by decide))

theorem faultBegun_slot (s : State) (n m : Slot) (h : m ≠ n) : (s.faultBegun n).slot m = s.slot m := by
  rw [State.faultBegun, updateAtt_eq, setAtt_slot, (removeEntry_frame _ n).slot m, (changeState_onlySlot s n .faulted [] m h).1]

/-- The second half: the records complete, the attention work ends, and the fault is reported (R22, R90, R127, R173). -/
theorem enterFaulted_rest (s : State) (n : Slot) (k : FaultKind) :
    Unchanged [.attention, .claims, .notices, .lostCount, .firstLoss, .fault]
      (((s.faultBegun n).setQueue n []).completeAll (s.queue n) faultStatus true) (s.enterFaulted n k) :=
  (attentionAtFault_frame _ n).andThen (reportFault_frame _ n k (if k = .faultThreshold then s.inFlightOwner n else none)
    .slotFaulted (.fault k)) (by decide) (by decide)

theorem enterFaulted_keys (s : State) (n : Slot) (k : FaultKind) : (s.enterFaulted n k).keys ≤ s.keys := by
  have f := faultBegun_frame s n
  rw [(enterFaulted_rest s n k).keys, ← f.keys]
  refine completed_keys ?_ _ _
  rw [f.queue n, List.append_nil]

theorem enterFaulted_queues (s : State) (n : Slot) (k : FaultKind) : (s.enterFaulted n k).queues = s.queues.set n [] := by
  rw [← ((enterFaulted_rest s n k) .queues (by decide) : State.queues _ = _),
    ← ((completeAll_frame _ _ _ _) .queues (by decide) : State.queues _ = _), setQueue_queues,
    ← ((faultBegun_frame s n) .queues (by decide) : State.queues _ = _)]

theorem enterFaulted_slot_other (s : State) (n : Slot) (k : FaultKind) {m : Slot} (h : m ≠ n) :
    (s.enterFaulted n k).slot m = s.slot m := by
  rw [(enterFaulted_rest s n k).slot m, (completeAll_frame _ _ _ _).slot m, setQueue_slot, faultBegun_slot s n m h]

theorem queue_of_queues {q : List Record} (h : t.queues = s.queues.set n q) (m : Slot) :
    t.queue m = if m = n then q else s.queue m := by
  have ht : t.queue m = (s.setQueue n q).queue m := by simp only [State.queue, h, setQueue_queues]
  rw [ht]
  split
  · rename_i hm; subst hm; exact setQueue_queue_self s m q
  · rename_i hm; exact setQueue_queue_other s n m q hm

/-- The slot enters FAULTED, alone or as its exchange ends. -/
theorem enterFaulted_pool (k : FaultKind) (f : Unchanged [.slots, .exchange, .responseTimeout] s u) (ho : OnlySlot n s u)
    (hx : ∀ m, m ≠ n → s.inFlight m = true → u.exchange = s.exchange) : KeepsPool P s (u.enterFaulted n k) := by
  have ff := enterFaulted_frame u n k
  have hqueues : (u.enterFaulted n k).queues = s.queues.set n [] := by
    rw [enterFaulted_queues, ← (f .queues (by decide) : s.queues = _)]
  have hqueue := queue_of_queues hqueues
  refine KeepsPool.of_queue (n := n) ((enterFaulted_keys u n k).trans f.keys.le) ?_ ?_ (fun m hm => ⟨?_, fun hf => ⟨?_, ?_⟩⟩)
    (fun r hr => ?_) (fun _ => dispatchAt_of_queued (fun r hr => ?_))
  · rw [← (ff .requesters (by decide) : u.requesters = _), ← (f .requesters (by decide) : s.requesters = _)]
  · rw [← (ff .roundRobin (by decide) : u.roundRobin = _), ← (f .roundRobin (by decide) : s.roundRobin = _)]
  · rw [hqueue, if_neg hm]
  · rw [enterFaulted_exchange, hx m hm hf]
  · rw [enterFaulted_slot_other u n k hm, (ho m hm).1]
    exact id
  · rw [hqueue, if_pos rfl] at hr; exact absurd hr List.not_mem_nil
  · rw [hqueue, if_pos rfl] at hr; exact absurd hr List.not_mem_nil

/-! ## The end of an event -/

theorem finish_pool (s t : State) : KeepsPool P t (s.finish t) := by
  dsimp only [State.finish]
  have hite : ∀ {p : Prop} [Decidable p] {u v : State}, KeepsPool P t u → KeepsPool P u v → KeepsPool P t (if p then v else u) :=
    fun hu huv => KeepsPool.ite (fun _ => hu.trans huv) (fun _ => hu)
  refine hite (hite (hite (serveClaims_pool t) ?_) ?_) ?_
  · exact KeepsPool.of_frame (markEvaluation_frame _)
  · exact KeepsPool.of_frame (markPass_frame _)
  · exact KeepsPool.of_frame (endShedding_frame _ _)

end Sys2Proof.Machine
end

section
/-! The laws of the record pool: the Budget Arbiter, the chain, and the lines (R83, R87). -/

set_option Elab.async false

namespace Sys2Proof.Machine

variable {P : Prop} {s t u : State} {n : Slot}

/-! ## The Budget Arbiter -/

theorem convertDrain_pool (s : State) (n : Slot) (c : DrainCause) : KeepsPool P s (s.convertDrain n c) := setSlot_pool s n _ rfl

theorem evict_pool (s : State) (n : Slot) : KeepsPool P s (s.evict n) := by
  unfold State.evict
  exact KeepsPool.ite (fun _ => convertDrain_pool s n _) (fun _ => startDrain_pool s n _ _)

theorem shedSlot_pool (s : State) (n : Slot) : KeepsPool P s (s.shedSlot n) := by
  unfold State.shedSlot
  split
  · exact convertDrain_pool s n _
  · exact startDrain_pool s n _ _
  · exact switchOff_pool s n _
  · exact switchOff_pool s n _
  · exact switchOff_pool s n _
  all_goals exact KeepsPool.refl P s

theorem selectVictim_pool (s : State) (n : Slot) : KeepsPool P s (s.selectVictim n) :=
  (shedSlot_pool s n).trans (KeepsPool.of_frame (selectVictim_frame s n))

theorem selectVictims_pool : ∀ (fuel : Nat) (s : State), KeepsPool P s (State.selectVictims fuel s)
  | 0, s => KeepsPool.refl P s
  | fuel + 1, s => by
    rw [selectVictims_succ]
    refine KeepsPool.ite (fun _ => KeepsPool.refl P s) (fun _ => ?_)
    split
    · exact KeepsPool.refl P s
    · rename_i n _ _
      exact KeepsPool.ite (fun _ => (selectVictim_pool s n).trans (KeepsPool.of_frame (endShedding_frame _ _)))
        (fun _ => (selectVictim_pool s n).trans (selectVictims_pool fuel _))

/-- A grant reaches a resting slot, for which no record is dispatched. -/
theorem grant_pool (s : State) (n : Slot) : KeepsPool P s (s.grant n) := by
  refine KeepsPool.of_onlySlot (grant_frame s n) (grant_onlySlot s n) (fun _ hs => ?_)
  have hrest : (s.slot n).state.resting = false := by rcases hs with h | h <;> rw [h] <;> rfl
  rw [grant_of_notResting hrest, (grantStart_frame s n).slot n]
  exact hs

theorem evaluate_pool : ∀ (fuel : Nat) (s : State), KeepsPool P s (State.evaluate fuel s)
  | 0, s => KeepsPool.refl P s
  | fuel + 1, s => by
    rw [evaluate_succ]
    split
    · exact KeepsPool.refl P s
    · split
      · exact (grant_pool s _).trans (evaluate_pool fuel _)
      · split
        · exact KeepsPool.refl P s
        · split
          · exact (KeepsPool.of_frame (setEvictionSet_frame s _)).trans (KeepsPool.foldl evict_pool _ _)
          · split
            · split
              · exact ((KeepsPool.of_frame (countPass_frame s _)).trans (grant_pool _ _)).trans (evaluate_pool fuel _)
              · exact KeepsPool.refl P s
            · exact KeepsPool.refl P s

/-! ## The chain -/

theorem inFlight_of_free (h : s.exchange = none) (m : Slot) : s.inFlight m = false := by simp [State.inFlight, h]

theorem inFlight_elsewhere {e : Exchange} (h : s.exchange = some e) {m : Slot} (hm : m ≠ e.slot) : s.inFlight m = false := by
  simpa [State.inFlight, h] using Ne.symm hm

/-- On a free chain an operation that leaves the records alone can start an exchange and change slots. -/
theorem KeepsPool.of_free {a : List Field} (f : Unchanged a s t) (h : s.exchange = none)
    (ha : ∀ f ∈ pooledFields, f ≠ .slots → f ≠ .exchange → f ∉ a := by decide) : KeepsPool P s t := by
  have hqueue : ∀ m, t.queue m = s.queue m := fun m => f.queue m (ha _ (by decide) (by decide) (by decide))
  refine KeepsPool.of_keys (f.keys (ha _ (by decide) (by decide) (by decide)) (ha _ (by decide) (by decide) (by decide))).le
    (f .requesters (ha _ (by decide) (by decide) (by decide)) : s.requesters = _).symm
    (f .roundRobin (ha _ (by decide) (by decide) (by decide)) : s.roundRobin = _).symm
    (fun hq m r hr => hq m r (hqueue m ▸ hr)) (fun hd m => dispatchAt_kept hd (hqueue m) (fun hf => ?_))
  rw [inFlight_of_free h m] at hf
  exact Bool.noConfusion hf

theorem startControl_pool (c : ControlEntry) (rest : List ControlEntry) (h : s.exchange = none) :
    KeepsPool P s (s.startControl c rest) := by
  have f := startControl_frame s c rest
  unfold State.startControl
  refine KeepsPool.ite (fun _ => ?_) (fun _ => KeepsPool.of_free f h)
  exact KeepsPool.of_free ((f.mono (by decide)).trans ((changeState_frame _ c.slot .settling []).mono (by decide))
    : Unchanged [.control, .exchange, .slots, .useOrder, .committed, .evictionSet, .evaluationDue, .notices, .lostCount,
      .firstLoss] s _) h

theorem dispatch_cons {r : Record} {rest : List Record} (hq : s.queue n = r :: rest) : s.dispatch n =
    { (s.setQueue n ({ r with state := .dispatched, attempt := 0, deadline := none } :: rest)).stopStep n with
      exchange := some (dataExchange n r), roundRobin := n } := by
  rw [State.dispatch, hq]

theorem dispatch_keys {r : Record} {rest : List Record} (hq : s.queue n = r :: rest) : (s.dispatch n).keys = s.keys := by
  rw [dispatch_cons hq]
  exact setQueue_keys_same (by rw [hq]; rfl)

/-- The record at the head of an AWAKE slot's queue is dispatched on a free chain (R83); the pointer moves to the slot. -/
theorem dispatch_pool (h : s.exchange = none) (hs : (s.slot n).state = .awake) : KeepsPool False s (s.dispatch n) := by
  cases hq : s.queue n with
  | nil => rw [State.dispatch, hq]; exact KeepsPool.refl _ s
  | cons r rest =>
    have hdispatch := dispatch_cons hq
    have hqueue := queue_of_queues (s := s) (t := s.dispatch n) (by rw [hdispatch]; rfl)
    have hkeys := dispatch_keys hq
    have hslot : ((s.dispatch n).slot n).state = .awake := by
      rw [hdispatch, stopStep_eq]
      exact (congrArg SlotRecord.state (setSlot_slot_self _ n _)).trans hs
    have hexchange : (s.dispatch n).exchange = some (dataExchange n r) := by rw [hdispatch]
    refine ⟨recordsBounded_of_keys hkeys.le (by rw [hdispatch]; rfl), tagsDistinct_of_keys hkeys.le, fun hsound m x hx => ?_,
      fun hsound m => ?_, False.elim⟩
    · rw [hqueue] at hx
      split at hx
      · rename_i hm
        subst hm
        rcases List.mem_cons.mp hx with rfl | hx
        · exact hsound m r (by rw [hq]; exact List.mem_cons_self)
        · exact hsound m x (by rw [hq]; exact List.mem_cons_of_mem r hx)
      · exact hsound m x hx
    · have hqueued : ∀ x ∈ s.queue m, x.state = .queued := dispatchesSound_queued s hsound (inFlight_of_free h m)
      by_cases hm : m = n
      · subst hm
        rw [hqueue, if_pos rfl, hexchange]
        refine ⟨fun x hx => hqueued x (by rw [hq]; exact List.mem_cons_of_mem r hx), fun x hx _ => ?_⟩
        obtain rfl := List.mem_singleton.mp hx
        exact ⟨rfl, Or.inl hslot, rfl⟩
      · exact dispatchAt_of_queued (by rw [hqueue, if_neg hm]; exact hqueued)

theorem offersLevel_awake {l : Level} (h : s.offersLevel l n = true) : (s.slot n).state = .awake := by
  by_contra hs
  simp [State.offersLevel, State.offeredHead, hs] at h

theorem chooseSlot_awake (h : s.chooseSlot = some n) : (s.slot n).state = .awake := by
  unfold State.chooseSlot at h
  split at h
  · rename_i m hm
    obtain rfl := Option.some.inj h
    exact offersLevel_awake (List.find?_some hm)
  · exact offersLevel_awake (List.find?_some h)

theorem select_pool (h : s.exchange = none) : KeepsPool False s s.select := by
  unfold State.select
  split
  · exact startControl_pool _ _ h
  · split
    · rename_i n hn
      exact dispatch_pool h (chooseSlot_awake hn)
    · exact KeepsPool.refl _ s

theorem toPhase_pool (s : State) (p : AttemptPhase) (o : Option Nat) : KeepsPool P s (s.toPhase p o) := by
  have hx : (s.toPhase p o).exchange.map (fun e => (e.slot, e.command)) = s.exchange.map (fun e => (e.slot, e.command)) := by
    cases h : s.exchange <;> simp [State.toPhase, h]
  refine KeepsPool.of_keys le_rfl rfl rfl id (fun h m => ?_)
  rw [hx]
  exact h m

/-! ## The ends of attempts -/

theorem countRetry_pool (s : State) (m : Slot) : KeepsPool P s (s.countRetry m) := by
  unfold State.countRetry
  split
  · rename_i r rest hq
    refine KeepsPool.ite (fun hr => ?_) (fun _ => KeepsPool.refl P s)
    refine KeepsPool.of_queue (n := m) (setQueue_keys_same (by rw [hq]; rfl)).le rfl rfl
      (fun k hk => ⟨setQueue_queue_other s m k _ hk, fun _ => ⟨rfl, id⟩⟩) (fun x hx => ?_) (fun h => ?_)
    · rw [setQueue_queue_self] at hx
      rw [hq]
      rcases List.mem_cons.mp hx with rfl | hx
      · exact ⟨r, List.mem_cons_self, rfl⟩
      · exact ⟨x, List.mem_cons_of_mem r hx, rfl⟩
    · obtain ⟨htail, hhead⟩ := h m
      rw [hq] at htail hhead
      rw [State.DispatchAt, setQueue_queue_self]
      refine ⟨htail, fun x hx _ => ?_⟩
      obtain rfl := List.mem_singleton.mp hx
      exact hhead r (by simp) (by rw [hr]; decide)
  · exact KeepsPool.refl P s

theorem resent_pool {e : Exchange} (h : s.exchange = some e) : KeepsPool P s (s.resent e) := by
  refine KeepsPool.of_keys le_rfl rfl rfl id (fun hd m => ?_)
  have hx : (s.resent e).exchange.map (fun e => (e.slot, e.command)) = s.exchange.map (fun e => (e.slot, e.command)) := by
    rw [h]; rfl
  rw [hx]
  exact hd m

theorem retry_pool {e : Exchange} (h : s.exchange = some e) : KeepsPool P s (s.retry e) := by
  rw [retry_eq]
  exact KeepsPool.ite (fun _ => resent_pool h) (fun _ => (resent_pool h).trans (countRetry_pool _ _))

/-- The exchange in flight ends, and the record that it carried leaves its queue (R87). -/
theorem dataDone_pool {e : Exchange} {r : Record} {rest : List Record} (h : s.exchange = some e) (hq : s.queue e.slot = r :: rest)
    (o : AttemptOutcome) : KeepsPool P s (s.freed.dataDone e.slot r rest o) := by
  have hdone : Unchanged [.attention, .responses, .notices, .lostCount, .firstLoss, .useOrder] (s.freed.setQueue e.slot rest)
      (s.freed.dataDone e.slot r rest o) := (handOff_frame _ r _ _ _).andThen (used_frame _ e.slot) (by decide) (by decide)
  have hkeys : (s.freed.dataDone e.slot r rest o).keys ≤ s.keys := by
    have hhand : (s.freed.dataDone e.slot r rest o).keys = _ := (used_frame _ e.slot).keys
    rw [hhand]
    exact handedOff_keys (s := s.freed) (by rw [show s.freed.queue e.slot = s.queue e.slot from rfl, hq]) _ _ _
  have hqueue := queue_of_queues (s := s) (t := s.freed.dataDone e.slot r rest o) (q := rest)
    ((hdone .queues (by decide) : State.queues _ = _).symm)
  refine KeepsPool.of_queue (n := e.slot) hkeys ((hdone .requesters (by decide) : State.requesters _ = _).symm)
    ((hdone .roundRobin (by decide) : State.roundRobin _ = _).symm) (fun m hm => ⟨by rw [hqueue, if_neg hm], fun hf => ?_⟩)
    (fun x hx => ⟨x, ?_, rfl⟩) (fun hd => dispatchAt_of_queued (fun x hx => ?_))
  · rw [inFlight_elsewhere h hm] at hf
    exact Bool.noConfusion hf
  · rw [hqueue, if_pos rfl] at hx
    rw [hq]
    exact List.mem_cons_of_mem r hx
  · rw [hqueue, if_pos rfl] at hx
    exact (hd e.slot).1 x (by rw [hq]; exact hx)

theorem freed_pool {e : Exchange} (h : s.exchange = some e) (hq : s.queue e.slot = []) : KeepsPool P s s.freed := by
  refine KeepsPool.of_queue (n := e.slot) (freed_frame s).keys.le rfl rfl (fun m hm => ⟨rfl, fun hf => ?_⟩)
    (fun x hx => ⟨x, hx, rfl⟩)
    (fun _ => dispatchAt_of_queued (fun x hx => ?_))
  · rw [inFlight_elsewhere h hm] at hf
    exact Bool.noConfusion hf
  · rw [show s.freed.queue e.slot = s.queue e.slot from rfl, hq] at hx
    exact absurd hx List.not_mem_nil

theorem dataEnd_pool {e : Exchange} (h : s.exchange = some e) (o : AttemptOutcome) :
    KeepsPool P s (s.freed.dataEnd e.slot o) := by
  have hfreed : s.freed.queue e.slot = s.queue e.slot := rfl
  cases hq : s.queue e.slot with
  | nil => rw [dataEnd_nil o (hfreed.trans hq)]; exact freed_pool h hq
  | cons r rest =>
    rw [dataEnd_done (hfreed.trans hq)]
    have hdone := dataDone_pool (P := P) h hq o
    exact KeepsPool.ite (fun _ => hdone.trans (towardsRest_pool _ _)) (fun _ => hdone.trans (startIdleHold_pool _ _))

/-- A control exchange ends: no record was dispatched (R82, R87). -/
theorem freed_pool_control {e : Exchange} (h : s.exchange = some e) (hc : e.command ≠ .read ∧ e.command ≠ .write) :
    KeepsPool P s s.freed := by
  refine KeepsPool.of_keys (freed_frame s).keys.le rfl rfl id (fun hd m => dispatchAt_of_queued (fun r hr => ?_))
  by_contra hne
  obtain ⟨htail, hhead⟩ := hd m
  cases hq : s.queue m with
  | nil => rw [show s.freed.queue m = s.queue m from rfl, hq] at hr; exact absurd hr List.not_mem_nil
  | cons x rest =>
    rw [show s.freed.queue m = s.queue m from rfl, hq] at hr
    rw [hq] at htail hhead
    rcases List.mem_cons.mp hr with rfl | hr
    · have hx := (hhead r (by simp) hne).2.2
      rw [h] at hx
      simp only [Option.map_some, Option.some.injEq, Prod.mk.injEq] at hx
      rw [hx.2] at hc
      cases hop : r.op <;> simp [hop, commandOf] at hc
    · exact hne (htail r hr)

theorem beginSensing_pool (s : State) (n : Slot) : KeepsPool P s (s.beginSensing n) := by
  dsimp only [State.beginSensing]
  exact KeepsPool.ite (fun _ => (setAtt_pool s n _).trans (activation_pool _ n)) (fun _ => setAtt_pool s n _)

theorem enterAwake_pool (s : State) (n : Slot) (d : List Byte) : KeepsPool P s (s.enterAwake n d) := by
  have hc : KeepsPool P s (s.changeState n .awake d) := changeState_pool s n .awake d (Or.inl (Or.inl rfl))
  dsimp only [State.enterAwake]
  refine KeepsPool.trans ?_ (startIdleHold_pool _ n)
  refine KeepsPool.ite (fun _ => hc.trans (beginSensing_pool _ n)) (fun _ => ?_)
  exact KeepsPool.ite (fun _ => hc.trans (endAction_pool _ n _ _ _)) (fun _ => hc)

theorem fault_pool (s : State) (n : Slot) (k : FaultKind) : KeepsPool P s (s.enterFaulted n k) :=
  enterFaulted_pool k (Unchanged.refl _ s) (OnlySlot.refl n s) (fun _ _ _ => rfl)

theorem identifyEnd_pool (h : s.exchange = none) (n : Slot) (o : AttemptOutcome) : KeepsPool P s (s.identifyEnd n o) := by
  dsimp only [State.identifyEnd]
  split
  · exact enterOff_pool s n _ (Or.inr (Or.inr (inFlight_of_free h n)))
  · split
    · exact KeepsPool.ite (fun _ => enterAwake_pool s n _) (fun _ => fault_pool s n _)
    · split
      · exact fault_pool s n _
      · exact loadPoll_pool s n _ _

theorem wakeEnd_pool (h : s.exchange = none) (n : Slot) : KeepsPool P s (s.wakeEnd n) := by
  dsimp only [State.wakeEnd]
  split
  · exact enterOff_pool s n _ (Or.inr (Or.inr (inFlight_of_free h n)))
  · exact fault_pool s n _
  · exact loadPoll_pool s n _ _

theorem slumberEnd_pool (h : s.exchange = none) (n : Slot) (o : AttemptOutcome) : KeepsPool P s (s.slumberEnd n o) := by
  have hleave : ∀ new, s.MayLeave n new := fun _ => Or.inr (Or.inr (inFlight_of_free h n))
  unfold State.slumberEnd
  split
  · exact KeepsPool.refl P s
  · split
    · exact enterSlumber_pool s n _ (hleave _)
    · exact (enterOff_pool s n _ (hleave _)).trans (KeepsPool.of_frame (reportFault_frame _ n _ _ _ _))
    · exact enterOff_pool s n _ (hleave _)

theorem exchangeEnd_pool {e : Exchange} (h : s.exchange = some e) (o : AttemptOutcome) : KeepsPool P s (s.exchangeEnd e o) := by
  rw [exchangeEnd_eq]
  split
  · exact dataEnd_pool h o
  · exact dataEnd_pool h o
  · rename_i hc
    exact (freed_pool_control h (by rw [hc]; decide)).trans (slumberEnd_pool rfl _ o)
  · rename_i hc
    exact (freed_pool_control h (by rw [hc]; decide)).trans (wakeEnd_pool rfl _)
  · rename_i hc
    exact (freed_pool_control h (by rw [hc]; decide)).trans (identifyEnd_pool rfl _ o)

theorem attemptEnd_pool {e : Exchange} (h : s.exchange = some e) (o : AttemptOutcome) : KeepsPool P s (s.attemptEnd e o) := by
  have hcounted : KeepsPool P s (s.counted e o) := setSlot_pool s e.slot _ rfl
  have hexchange : (s.counted e o).exchange = some e := h
  rw [attemptEnd_eq]
  refine KeepsPool.ite (fun _ => ?_) (fun _ => KeepsPool.ite (fun _ => hcounted.trans (retry_pool hexchange))
    (fun _ => hcounted.trans (exchangeEnd_pool hexchange o)))
  refine enterFaulted_pool (u := s.ended e o) _ (ended_frame s e o) (ended_onlySlot s e o) (fun m hm hf => ?_)
  rw [inFlight_elsewhere h hm] at hf
  exact Bool.noConfusion hf

/-! ## Attention lines -/

theorem deactivation_pool (s : State) (n : Slot) : KeepsPool P s (s.deactivation n) := by
  unfold State.deactivation
  split
  · exact setAtt_pool s n _
  · exact setAtt_pool s n _
  · exact (KeepsPool.of_frame (setClaims_frame s _)).trans (setAtt_pool _ n _)
  · exact (withdrawReason_pool s n _).trans (setAtt_pool _ n _)
  · exact setAtt_pool s n _

theorem lineChange_pool (s : State) (n : Slot) (active : Bool) : KeepsPool P s (s.lineChange n active) := by
  dsimp only [State.lineChange]
  split
  · exact (setAtt_pool s n _).trans (activation_pool _ n)
  · exact setAtt_pool s n _
  · exact (setAtt_pool s n _).trans (deactivation_pool _ n)

end Sys2Proof.Machine
end

section
/-! The laws of the record pool: the requests, the restart, and every step (R69, R70, R73, R77, R79, R83, R87). -/

set_option Elab.async false

namespace Sys2Proof.Machine

variable {P : Prop} {s t u v : State} {n : Slot}

/-! ## The law of the fetch claims -/

/-- From `s` to `t` the laws of the record pool are kept, that of the fetch claims among them (R79). -/
structure PoolStep (P : Prop) (s t : State) : Prop extends KeepsPool P s t where
  claims : s.claimsSound → t.claimsSound

theorem PoolStep.refl (P : Prop) (s : State) : PoolStep P s s := ⟨KeepsPool.refl P s, id⟩

theorem PoolStep.trans (h : PoolStep P s t) (k : PoolStep P t u) : PoolStep P s u :=
  ⟨h.toKeepsPool.trans k.toKeepsPool, k.claims ∘ h.claims⟩

theorem PoolStep.ite {p : Prop} [Decidable p] (h : p → PoolStep P s t) (k : ¬ p → PoolStep P s u) :
    PoolStep P s (if p then t else u) := by
  split
  · exact h ‹_›
  · exact k ‹_›

/-- An operation that keeps the laws and touches neither claims nor records. -/
theorem KeepsPool.step {a : List Field} (h : KeepsPool P s t) (f : Unchanged a s t)
    (ha : ∀ f ∈ [Field.claims, .queues, .responses], f ∉ a := by decide) : PoolStep P s t :=
  ⟨h, fun hc => f.claimsSound hc (ha _ (by decide)) (ha _ (by decide)) (ha _ (by decide))⟩

theorem PoolStep.of_frame {a : List Field} (f : Unchanged a s t) (ha : ∀ f ∈ Field.claims :: pooledFields, f ∉ a := by decide) :
    PoolStep P s t :=
  (KeepsPool.of_frame f (fun g hg => ha g (List.mem_cons_of_mem _ hg))).step f
    (fun g hg => ha g (by revert g; decide))

theorem joinQueue_claims (s : State) (n : Slot) (r : Record) : (s.joinQueue n r).claims = s.claims := by
  have hcancel : ∀ v : State, (v.cancelDrain n).claims = v.claims := fun v => by
    have hc : v.claims = _ := (changeState_frame v n .awake []) .claims (by decide)
    unfold State.cancelDrain
    dsimp only
    split
    · rw [← ((endAction_frame _ n _ _ _) .claims (by decide) : State.claims _ = _), ← hc]
    · exact hc.symm
  have hgain : ∀ (v : State) (l : Level), (v.gainReason n .work l).claims = v.claims := fun v l =>
    ((gainReason_frame v n .work l) .claims (by decide) : v.claims = _).symm
  dsimp only [State.joinQueue]
  split
  · rfl
  · split
    · exact hcancel _
    · rfl
  · exact hgain _ _
  · exact hgain _ _
  all_goals rfl

theorem createFetch_claims (s : State) (n : Slot) : (s.createFetch n).claims = s.claims := joinQueue_claims _ n _

theorem createFetches_counts : ∀ (l : List Slot) (s : State),
    (l.foldl (fun s n => s.createFetch n) s).claims = s.claims ∧
      (l.foldl (fun s n => s.createFetch n) s).liveTotal = s.liveTotal + l.length
  | [], s => ⟨rfl, rfl⟩
  | n :: l, s => by
    obtain ⟨hclaims, htotal⟩ := createFetches_counts l (s.createFetch n)
    refine ⟨hclaims.trans (createFetch_claims s n), htotal.trans ?_⟩
    rw [createFetch_liveTotal, List.length_cons]
    omega

/-- Serving the claims leaves one waiting only where no record is free, whatever the state before (R79). -/
theorem serveClaims_claimsSound (s : State) : s.serveClaims.claimsSound := by
  obtain ⟨hclaims, htotal⟩ := createFetches_counts (s.claims.take (Config.poolSize - s.liveTotal))
    { s with claims := s.claims.drop (Config.poolSize - s.liveTotal) }
  have hlive := (setClaims_frame s (s.claims.drop (Config.poolSize - s.liveTotal))).liveTotal
  show State.claims _ = [] ∨ Config.poolSize ≤ State.liveTotal _
  rw [State.serveClaims, hclaims, htotal, hlive, List.length_take, List.drop_eq_nil_iff]
  omega

theorem finish_claimsSound (s t : State) : (s.finish t).claimsSound := by
  dsimp only [State.finish]
  have hite : ∀ {p : Prop} [Decidable p] {u v : State}, u.claimsSound → (u.claimsSound → v.claimsSound) →
      (if p then v else u).claimsSound := fun hu huv => by
    split
    · exact huv hu
    · exact hu
  refine hite (hite (hite (serveClaims_claimsSound t) ?_) ?_) ?_
  · exact (markEvaluation_frame _).claimsSound
  · exact (markPass_frame _).claimsSound
  · exact (endShedding_frame _ _).claimsSound

/-- An event that keeps the other laws ends with the law of the claims. -/
theorem KeepsPool.finish (h : KeepsPool P s t) (v : State) : PoolStep P s (v.finish t) :=
  ⟨h.trans (finish_pool v t), fun _ => finish_claimsSound v t⟩

theorem event_pool {due : Bool} {effect : State → State} (h : event due s effect = .next t)
    (he : due = true → KeepsPool P s (effect s)) : PoolStep P s t := by
  injection h with h
  subst h
  exact PoolStep.ite (fun hd => (he hd).finish s) (fun _ => PoolStep.refl P s)

theorem quietEvent_pool {due : Bool} {effect : State → State} (h : quietEvent due s effect = .next t)
    (he : PoolStep P s (effect s)) : PoolStep P s t := by
  injection h with h
  subst h
  exact PoolStep.ite (fun _ => he) (fun _ => PoolStep.refl P s)

/-! ## Takes -/

theorem respond_pool (s : State) (c : Taken) (st : Status) (d : List Byte) : PoolStep P s (s.respond c st d) := by
  refine ⟨KeepsPool.of_keys (respond_keys s c st d).le rfl rfl id (fun h => h), fun h => respond_claimsSound h c st d⟩

theorem take_pool {α : Type} {k : TakeKind} {form : List Byte → Option α} {carry : Taken → α → State → State}
    (hc : ∀ c a s, s.tagInUse c.requester c.tag = false → PoolStep P s (carry c a s)) (h : take k form carry s = .next t) :
    PoolStep P s t := by
  injection h with h
  subst h
  split
  · exact PoolStep.refl P s
  · refine (PoolStep.of_frame (setIngress_frame s s.ingress.tail)).trans ?_
    unfold commonChecks
    split
    · exact respond_pool _ _ _ _
    · refine PoolStep.ite (fun _ => respond_pool _ _ _ _) (fun _ => PoolStep.ite (fun _ => respond_pool _ _ _ _) (fun htag => ?_))
      exact hc _ _ _ (by simpa using htag)

/-- A management operation that is taken (R146). -/
theorem manage_pool {α : Type} {k : TakeKind} {form : List Byte → Option α} {op : Taken → α → State → State}
    (hop : ∀ c a s, PoolStep P s (op c a s)) (h : take k form (manage op) s = .next t) : PoolStep P s t := by
  refine take_pool (fun c a s _ => ?_) h
  unfold manage
  exact PoolStep.ite (fun _ => respond_pool _ _ _ _) (fun _ => hop c a s)

theorem withSlot_pool {op : Taken → Slot → State → State} (hop : ∀ c n s, PoolStep P s (op c n s)) (c : Taken) (b : Byte)
    (s : State) : PoolStep P s (withSlot op c b s) := by
  unfold withSlot
  split
  · exact respond_pool _ _ _ _
  · exact hop c _ s

/-- An operation, its answer, and the end of the event. -/
theorem KeepsPool.answered (h : KeepsPool P s t) (c : Taken) (st : Status) (d : List Byte) :
    PoolStep P s (s.finish (t.respond c st d)) :=
  (h.trans (respond_pool t c st d).toKeepsPool).finish s

/-- A request that passes the checks 7, 9 and 11 joins with a tag that no live record of the requester has (R73, R77, R79). -/
theorem admitData_pool (c : Taken) (q : DataRequest) (s : State) (htag : s.tagInUse c.requester c.tag = false) :
    PoolStep P s (admitData c q s) := by
  unfold admitData
  split
  · exact respond_pool _ _ _ _
  · rename_i e he
    have hjoin : KeepsPool P s (s.joinQueue e.slot (s.requestRecord c e q)) := by
      have hchecks : s.liveCount c.requester < (s.requester c.requester).limit ∧ s.liveTotal < Config.poolSize := by
        unfold State.checkRequest at he
        split at he
        · exact absurd he (by simp)
        · split_ifs at he with h1 h2 h3 h4 h5 h6 h7
          obtain rfl := Except.ok.inj he
          exact ⟨not_le.mp h5, not_le.mp h7⟩
      refine joinQueue_pool rfl rfl hchecks.2 (fun r hr => ?_) (fun _ hmem => ?_)
      · obtain rfl := Owner.requester.inj hr
        exact hchecks.1
      · have := (tagInUse_iff s c.requester c.tag).mpr hmem
        rw [htag] at this
        exact Bool.noConfusion this
    exact (KeepsPool.ite (fun _ => hjoin.trans (respond_pool _ c .posted []).toKeepsPool) (fun _ => hjoin)).finish s

/-! ## Tables and reports -/

theorem readEntryOp_pool (c : Taken) (a : Table × Nat) (s : State) : PoolStep P s (readEntryOp c a s) := by
  unfold readEntryOp
  split <;> exact respond_pool _ _ _ _

theorem findUnitOp_pool (c : Taken) (unit : Nat) (s : State) : PoolStep P s (findUnitOp c unit s) := by
  unfold findUnitOp
  split <;> exact respond_pool _ _ _ _

theorem setUnitMap_frame (s : State) (m : Vector UnitEntry 128) : Unchanged [.unitMap] s { s with unitMap := m } := by
  intro f hf; cases f <;> first | rfl | exact absurd (by decide) hf

theorem writeUnitOp_pool (c : Taken) (a : Nat × List Byte) (s : State) : PoolStep P s (writeUnitOp c a s) := by
  unfold writeUnitOp
  split
  · split
    · exact respond_pool _ _ _ _
    · exact PoolStep.ite (fun _ => respond_pool _ _ _ _)
        (fun _ => (PoolStep.of_frame (setUnitMap_frame s _)).trans (respond_pool _ _ _ _))
  · exact respond_pool _ _ _ _

/-- A stored limit is the old one, or at or above the live count (R138). -/
theorem setRequester_pool (s : State) (r : Requester) (e : RequesterEntry)
    (h : ¬ (e.limit ≠ (s.requester r).limit ∧ e.limit < s.liveCount r)) :
    PoolStep P s { s with requesters := s.requesters.set r e } := by
  refine ⟨⟨fun hb => ⟨hb.1, fun k => ?_⟩, fun hd => hd, fun hq => hq, fun hd => hd, fun _ => rfl⟩, fun hc => hc⟩
  have hk := hb.2 k
  have hlive : ({ s with requesters := s.requesters.set r e } : State).liveCount k = s.liveCount k := rfl
  rw [hlive]
  by_cases hkr : k = r
  · subst hkr
    have hself : ({ s with requesters := s.requesters.set k e } : State).requester k = e := by simp [State.requester]
    rw [hself]
    omega
  · have hval : r.val ≠ k.val := fun he => hkr (Fin.ext he.symm)
    have hother : ({ s with requesters := s.requesters.set r e } : State).requester k = s.requester k := by
      simp [State.requester, hval]
    rw [hother]
    exact hk

theorem writeRequesterOp_pool (c : Taken) (a : Nat × List Byte) (s : State) : PoolStep P s (writeRequesterOp c a s) := by
  unfold writeRequesterOp
  split
  · rename_i hr
    split
    · exact respond_pool _ _ _ _
    · exact PoolStep.ite (fun _ => respond_pool _ _ _ _)
        (fun h => (setRequester_pool s ⟨a.1, hr⟩ _ h).trans (respond_pool _ _ _ _))
  · exact respond_pool _ _ _ _

theorem setProfiles_frame (s : State) (p : Vector Profile 24) : Unchanged [.profiles] s { s with profiles := p } := by
  intro f hf; cases f <;> first | rfl | exact absurd (by decide) hf

theorem idleHoldWritten_pool (s : State) (n : Slot) (old : Nat) : PoolStep P s (s.idleHoldWritten n old) := by
  have hstop : KeepsPool P s (s.setSlot n { s.slot n with step := none }) := setSlot_pool s n _ rfl
  unfold State.idleHoldWritten
  exact PoolStep.ite (fun _ => PoolStep.refl P s) (fun _ => PoolStep.ite (fun _ => hstop.step (setSlot_frame s n _))
    (fun _ => (startIdleHold_pool s n).step (startIdleHold_frame s n)))

theorem storeProfile_pool (s : State) (n : Slot) (p : Profile) : PoolStep P s (s.storeProfile n p) := by
  have h : PoolStep P s (State.idleHoldWritten { s with profiles := s.profiles.set n p } n (s.profile n).idleHold) :=
    (PoolStep.of_frame (setProfiles_frame s _)).trans (idleHoldWritten_pool _ n _)
  dsimp only [State.storeProfile]
  exact PoolStep.ite (fun _ => h.trans (PoolStep.of_frame (markEvaluation_frame _))) (fun _ => h)

theorem writeProfileOp_pool (c : Taken) (a : Nat × List Byte) (s : State) : PoolStep P s (writeProfileOp c a s) := by
  unfold writeProfileOp
  split
  · split
    · exact respond_pool _ _ _ _
    · exact PoolStep.ite (fun _ => respond_pool _ _ _ _) (fun _ => (storeProfile_pool s _ _).trans (respond_pool _ _ _ _))
  · exact respond_pool _ _ _ _

theorem setChain_frame (s : State) (v : ChainSettings) : Unchanged [.chain] s { s with chain := v } := by
  intro f hf; cases f <;> first | rfl | exact absurd (by decide) hf

theorem writeChainOp_pool (c : Taken) (a : Nat × List Byte) (s : State) : PoolStep P s (writeChainOp c a s) := by
  unfold writeChainOp
  refine PoolStep.ite (fun _ => respond_pool _ _ _ _) (fun _ => ?_)
  split
  · exact respond_pool _ _ _ _
  · exact (PoolStep.of_frame (setChain_frame s _)).trans (respond_pool _ _ _ _)

theorem setBudget_frame (s : State) (v : BudgetSettings) : Unchanged [.budget] s { s with budget := v } := by
  intro f hf; cases f <;> first | rfl | exact absurd (by decide) hf

theorem writeBudgetOp_pool (c : Taken) (a : Nat × List Byte) (s : State) : PoolStep P s (writeBudgetOp c a s) := by
  unfold writeBudgetOp
  refine PoolStep.ite (fun _ => respond_pool _ _ _ _) (fun _ => ?_)
  split
  · exact respond_pool _ _ _ _
  · exact ((PoolStep.of_frame (setBudget_frame s _)).trans (PoolStep.of_frame (limitSet_frame _ _ _))).trans (respond_pool _ _ _ _)

theorem setFreeIndex_frame (s : State) (k : Nat) : Unchanged [.freeIndex] s { s with freeIndex := k } := by
  intro f hf; cases f <;> first | rfl | exact absurd (by decide) hf

theorem readFaultOp_pool (c : Taken) (a : Unit) (s : State) : PoolStep P s (readFaultOp c a s) := by
  unfold readFaultOp
  split
  · exact respond_pool _ _ _ _
  · exact (PoolStep.of_frame (setFreeIndex_frame s _)).trans (respond_pool _ _ _ _)

theorem setFault_frame (s : State) (r : FaultRecord) : Unchanged [.fault] s { s with fault := r } := by
  intro f hf; cases f <;> first | rfl | exact absurd (by decide) hf

theorem clearFaultOp_pool (c : Taken) (serial : Byte) (s : State) : PoolStep P s (clearFaultOp c serial s) := by
  unfold clearFaultOp
  exact PoolStep.ite (fun _ => respond_pool _ _ _ _) (fun _ => PoolStep.ite (fun _ => respond_pool _ _ _ _)
    (fun _ => (PoolStep.of_frame (setFault_frame s _)).trans (respond_pool _ _ _ _)))

/-! ## Slot commands -/

theorem slotWakeOp_pool (c : Taken) (a : Byte × Byte) (s : State) : PoolStep P s (slotWakeOp c a s) := by
  unfold slotWakeOp
  split
  · exact respond_pool _ _ _ _
  · exact respond_pool _ _ _ _
  · exact PoolStep.ite (fun _ => respond_pool _ _ _ _) (fun _ => PoolStep.ite (fun _ => respond_pool _ _ _ _) (fun _ => PoolStep.ite
      (fun _ => (PoolStep.of_frame (gainReason_frame s _ _ _)).trans (respond_pool _ _ _ _)) (fun _ => respond_pool _ _ _ _)))

theorem slotRestOp_pool (c : Taken) (n : Slot) (s : State) : PoolStep P s (slotRestOp c n s) := by
  unfold slotRestOp
  exact PoolStep.ite (fun _ => PoolStep.ite (fun _ => (startDrain_pool s n _ _).answered c _ _) (fun _ => respond_pool _ _ _ _))
    (fun _ => respond_pool _ _ _ _)

/-- The DISPATCHED record stays at the head, and the QUEUED ones complete (R91). -/
theorem abortQueued_pool (s : State) (n : Slot) : KeepsPool P s (s.abortQueued n) := by
  have f := abortQueued_frame s n
  have hqueues : (s.abortQueued n).queues = s.queues.set n ((s.queue n).filter (fun r => r.state != .queued)) :=
    ((completeAll_frame (s.setQueue n _) _ _ _) .queues (by decide) : State.queues _ = _).symm
  have hqueue := queue_of_queues hqueues
  have hperm : ((s.queue n).filter (fun r => r.state == .queued) ++ (s.queue n).filter (fun r => r.state != .queued)).Perm
      (s.queue n) := List.filter_append_perm _ _
  refine KeepsPool.of_queue (n := n) (completed_keys hperm _ _) (f .requesters (by decide) : s.requesters = _).symm
    (f .roundRobin (by decide) : s.roundRobin = _).symm (fun m hm => ⟨by rw [hqueue, if_neg hm], fun _ => ⟨?_, ?_⟩⟩)
    (fun r hr => ⟨r, ?_, rfl⟩) (fun h => ?_)
  · exact (f .exchange (by decide) : s.exchange = _).symm
  · rw [f.slot m]; exact id
  · rw [hqueue, if_pos rfl] at hr
    exact List.mem_of_mem_filter hr
  · obtain ⟨htail, hhead⟩ := h n
    have hx : s.exchange = (s.abortQueued n).exchange := f .exchange (by decide)
    rw [State.DispatchAt, hqueue, if_pos rfl, f.slot n, ← hx]
    cases hq : s.queue n with
    | nil => simp
    | cons r rest =>
      rw [hq] at htail hhead
      have hrest : rest.filter (fun r => r.state != .queued) = [] := by
        rw [List.filter_eq_nil_iff]
        exact fun x hx => by simp [htail x hx]
      rw [List.filter_cons, hrest]
      split
      · exact ⟨fun x hx => absurd hx List.not_mem_nil, fun x hx => hhead x (by simpa using hx)⟩
      · exact ⟨fun x hx => absurd hx List.not_mem_nil, fun x hx => absurd hx List.not_mem_nil⟩

theorem attentionOff_pool (s : State) (n : Slot) : KeepsPool P s (s.attentionOff n) := by
  unfold State.attentionOff
  split
  · exact KeepsPool.refl P s
  · exact KeepsPool.refl P s
  · exact setAtt_pool s n _
  · exact (KeepsPool.of_frame (setClaims_frame s _)).trans (endAction_pool _ n _ _ _)
  · exact endAction_pool s n _ _ _

theorem residencyOff_pool (s : State) (n : Slot) : KeepsPool P s (s.residencyOff n) := by
  have fcontrol : Unchanged [.control] (s.retargetOff n) { s.retargetOff n with
      control := (s.retargetOff n).control.filter (fun x => x.slot != n) } := by
    intro f hf; cases f <;> first | rfl | exact absurd (by decide) hf
  have htarget : KeepsPool P s (s.retargetOff n) :=
    setSlot_pool s n { s.slot n with drain := some { cause := .offcmd, target := .off } } rfl
  unfold State.residencyOff
  split
  · exact KeepsPool.refl P s
  · exact KeepsPool.refl P s
  · exact switchOff_pool s n _
  · exact switchOff_pool s n _
  · exact switchOff_pool s n _
  · exact startDrain_pool s n _ _
  · exact (htarget.trans (KeepsPool.of_frame fcontrol)).trans (towardsRest_pool _ n)
  · exact htarget

theorem slotOffOp_pool (c : Taken) (n : Slot) (s : State) : PoolStep P s (slotOffOp c n s) := by
  have h : KeepsPool P s (s.abandoned n) :=
    (((abortQueued_pool s n).trans (attentionOff_pool _ n)).trans (KeepsPool.of_frame (removeEntry_frame _ n))).trans
      (residencyOff_pool _ n)
  exact (KeepsPool.ite (fun _ => h.trans (KeepsPool.of_frame (markPass_frame _))) (fun _ => h)).answered c _ _

theorem pinSlot_pool (s : State) (n : Slot) : KeepsPool P s (s.pinSlot n) := by
  have h : KeepsPool P s (s.setSlot n { s.slot n with pin := true }) := setSlot_pool s n _ rfl
  dsimp only [State.pinSlot]
  split
  · exact h.trans (gainReason_pool _ n _ _)
  · exact h.trans (gainReason_pool _ n _ _)
  · exact h.trans (setSlot_pool _ n _ rfl)
  · exact KeepsPool.ite (fun _ => h.trans (cancelDrain_pool _ n)) (fun _ => h)
  all_goals exact h

theorem unpinSlot_pool (s : State) (n : Slot) : KeepsPool P s (s.unpinSlot n) := by
  have h : KeepsPool P s (s.setSlot n { s.slot n with pin := false }) := setSlot_pool s n _ rfl
  dsimp only [State.unpinSlot]
  split
  · exact h.trans (withdrawReason_pool _ n _)
  · exact h.trans (withdrawReason_pool _ n _)
  · exact h.trans (startIdleHold_pool _ n)
  all_goals exact h

theorem pinOp_pool (c : Taken) (n : Slot) (s : State) : PoolStep P s (pinOp c n s) := by
  unfold pinOp
  exact PoolStep.ite (fun _ => respond_pool _ _ _ _) (fun _ => (pinSlot_pool s n).answered c _ _)

theorem unpinOp_pool (c : Taken) (n : Slot) (s : State) : PoolStep P s (unpinOp c n s) := by
  unfold unpinOp
  exact PoolStep.ite (fun _ => (unpinSlot_pool s n).answered c _ _) (fun _ => respond_pool _ _ _ _)

theorem slotClearOp_pool (c : Taken) (n : Slot) (s : State) : PoolStep P s (slotClearOp c n s) := by
  unfold slotClearOp
  refine PoolStep.ite (fun hs => KeepsPool.answered ?_ c _ _) (fun _ => respond_pool _ _ _ _)
  have h : KeepsPool P s (s.cleared n) :=
    (changeState_pool s n .off [] (mayLeave_of_state (by rw [hs]; decide) (by rw [hs]; decide))).trans (setSlot_pool _ n _ rfl)
  rw [clearSlot_eq]
  exact KeepsPool.ite (fun _ => h.trans (gainReason_pool _ n _ _)) (fun _ => h)

/-! ## The warm restart -/

/-- The lifetimes stop, and every record stays in its place (R161). -/
theorem restartOp_pool (c : Taken) (a : Unit) (s : State) : PoolStep P s (restartOp c a s) := by
  have hkeys : (restartOp c a s).keys = s.keys := by
    have hflat : (s.queues.map (fun q => q.map (fun r => { r with deadline := none }))).toList.flatten.map Record.key =
        s.queues.toList.flatten.map Record.key := by
      rw [Vector.toList_map, List.map_flatten, List.map_flatten, List.map_map]
      congr 1
      refine List.map_congr_left (fun q _ => ?_)
      simp [Function.comp_def, Record.key]
    rw [keys_eq, keys_eq]
    exact congrArg (fun l : List (Owner × Option Byte) =>
      (l : Multiset (Owner × Option Byte)) + keysOf (s.responses.filterMap ResponseItem.record?)) hflat
  have hstate : ∀ m, ((restartOp c a s).slot m).state = (s.slot m).state := fun m => by rw [restartOp_slot]
  refine ⟨KeepsPool.of_keys hkeys.le rfl rfl (fun h m r hr => ?_) (fun h m => ?_), fun h => ?_⟩
  · rw [restartOp_queue] at hr
    obtain ⟨x, hx, rfl⟩ := List.mem_map.mp hr
    exact h m x hx
  · obtain ⟨htail, hhead⟩ := h m
    rw [restartOp_queue, hstate, ← List.map_tail, ← List.map_take]
    refine ⟨fun r hr => ?_, fun r hr hne => ?_⟩
    · obtain ⟨x, hx, rfl⟩ := List.mem_map.mp hr
      exact htail x hx
    · obtain ⟨x, hx, rfl⟩ := List.mem_map.mp hr
      exact hhead x hx hne
  · show s.claims = [] ∨ Config.poolSize ≤ _
    rw [← keys_card, hkeys, keys_card]
    exact h

theorem restartRecords_keys (s : State) (n : Slot) : (s.restartRecords n).keys ≤ s.keys :=
  completed_keys (by rw [List.append_nil]) _ _

theorem restartAborted_keys : ∀ (l : List Slot) (s : State), (l.foldl State.restartRecords s).keys ≤ s.keys
  | [], _ => le_rfl
  | n :: l, s => (restartAborted_keys l _).trans (restartRecords_keys s n)

theorem restartRest_keys (s : State) (c : Taken) : (s.restartRest c).keys = s.keys :=
  answered_keys (e := c.entry) rfl rfl

theorem completeRestart_pool (c : Taken) : PoolStep P s (s.completeRestart c) := by
  have hqueue : ∀ m, (s.completeRestart c).queue m = [] := fun m =>
    ((restartRest_frame s.restartOff c).queue m).trans (restartOff_queue s m)
  have fnotices := restartNotices_frame s
  have hkeys : (s.completeRestart c).keys ≤ s.keys := calc
    (s.restartOff.restartRest c).keys = s.restartOff.keys := restartRest_keys s.restartOff c
    _ = s.restartAborted.keys := ((restartOff_frame s).keys).trans (restartAborted_frame s).keys
    _ ≤ s.restartNotices.keys := restartAborted_keys allSlots _
    _ = s.keys := fnotices.keys
  have foff := restartOff_total s
  have frest := restartRest_frame s.restartOff c
  refine ⟨KeepsPool.of_keys hkeys ((foff .requesters (by decide)).trans (frest .requesters (by decide)) : s.requesters = _).symm
    ((foff .roundRobin (by decide)).trans (frest .roundRobin (by decide)) : s.roundRobin = _).symm (fun _ m r hr => ?_)
    (fun _ m => dispatchAt_of_queued (fun r hr => ?_)), fun _ => Or.inl ?_⟩
  · rw [hqueue] at hr; exact absurd hr List.not_mem_nil
  · have : r ∈ (s.completeRestart c).queue m := hr
    rw [hqueue] at this; exact absurd this List.not_mem_nil
  · exact ((restartOff_frame s) .claims (by decide) |>.trans (frest .claims (by decide)) : s.restartCleared.claims = _).symm

/-! ## The commands with an outcome of their own shape -/

theorem execColdReset_pool {cause : ResetCause} (hp : ¬ P) (h : execColdReset cause s = .next t) : PoolStep P s t := by
  injection h with h
  subst h
  exact ⟨⟨fun _ => reset_recordsBounded, fun _ => reset_tagsDistinct, fun _ => reset_queuesSound,
    fun _ => reset_dispatchesSound, fun p => absurd p hp⟩, fun _ => Or.inl rfl⟩

theorem linkFields_pool {a : List Field} (f : Unchanged a s t) (hr : t.keys ≤ s.keys)
    (ha : ∀ f ∈ pooledFields, f ≠ .responses → f ∉ a := by decide) : KeepsPool P s t := by
  have hqueue : ∀ m, t.queue m = s.queue m := fun m => f.queue m (ha _ (by decide) (by decide))
  refine KeepsPool.of_keys hr (f .requesters (ha _ (by decide) (by decide)) : s.requesters = _).symm
    (f .roundRobin (ha _ (by decide) (by decide)) : s.roundRobin = _).symm (fun h m r hrm => h m r (hqueue m ▸ hrm))
    (fun h m => dispatchAt_kept h (hqueue m) (fun _ => ⟨?_, ?_⟩))
  · exact (f .exchange (ha _ (by decide) (by decide)) : s.exchange = _).symm
  · rw [f.slot m (ha _ (by decide) (by decide))]; exact id

theorem responseSent_keys (s : State) : s.responseSent.keys ≤ s.keys := by
  have hresponses : s.responseSent.responses = s.responses.tail := by
    unfold State.responseSent
    dsimp only
    split <;> rfl
  have hqueues : s.queues = _ := (responseSent_frame s) .queues (by decide)
  rw [keys_eq, keys_eq, hresponses, ← hqueues]
  refine add_le_add_right (Multiset.coe_le.mpr (List.Sublist.subperm ?_)) _
  exact ((List.tail_sublist s.responses).filterMap _).map _

theorem execTransmissionEnd_pool (h : execTransmissionEnd s = .next t) : PoolStep P s t := by
  have fnotice : Unchanged [.transmitter, .notices, .lostCount] s s.noticeSent := by
    unfold State.noticeSent
    dsimp only
    refine Unchanged.ite (fun _ => ?_) (fun _ => ?_) <;> (intro f hf; cases f <;> first | rfl | exact absurd (by decide) hf)
  injection h with h
  subst h
  split
  · exact (linkFields_pool (responseSent_frame s) (responseSent_keys s)).finish s
  · exact PoolStep.of_frame fnotice
  · exact PoolStep.refl P s

theorem execAtnChange_pool {active : Bool} (h : execAtnChange n active s = .next t) : PoolStep P s t := by
  have hpin : PoolStep P s { s with atnLines := s.atnLines.set n active } := PoolStep.of_frame (setAtnLines_frame s _)
  unfold execAtnChange at h
  split at h
  · injection h with h; subst h; exact PoolStep.refl P s
  · split at h
    · injection h with h; subst h
      exact (hpin.toKeepsPool.trans (lineChange_pool _ n active)).finish _
    · injection h with h; subst h; exact hpin

theorem execAttentionHoldoffExpiry_pool (h : execAttentionHoldoffExpiry n s = .next t) : PoolStep P s t :=
  event_pool h (fun _ => KeepsPool.ite
    (fun _ => ((setAtt_pool s n _).trans (setAtt_pool _ n _)).trans (startAction_pool _ n))
    (fun _ => (setAtt_pool s n _).trans (setAtt_pool _ n _)))

end Sys2Proof.Machine
end

section
/-! The laws of the record pool: every command and every step (R69, R70, R73, R77, R79, R83, R87, R109). -/

set_option Elab.async false

namespace Sys2Proof.Machine

variable {P : Prop} {s t u v : State} {n : Slot}

/-! ## The link and the time base -/

/-- An event of the link that sends no response. -/
theorem PoolStep.of_link (f : Unchanged linkFields s t) (hr : t.responses = s.responses) : PoolStep P s t := by
  have hkeys : t.keys = s.keys := by rw [keys_eq, keys_eq, hr, (f .queues (by decide) : s.queues = _)]
  refine ⟨linkFields_pool f hkeys.le, fun h => ?_⟩
  rw [State.claimsSound, ← keys_card, hkeys, keys_card, ← (f .claims (by decide) : s.claims = _)]
  exact h

theorem execStart_pool (h : execStart s = .next t) : PoolStep P s t := by
  refine PoolStep.of_link (execStart_frame h) ?_
  injection h with h
  subst h
  split <;> rfl

theorem raiseLink_responses (s : State) (k : NoticeKind) : (s.raiseLink k).responses = s.responses :=
  ((raiseLink_frame s k) .responses (by decide) : s.responses = _).symm

theorem arrive_responses (s : State) (frame : List Byte) : (s.arrive frame).responses = s.responses := by
  unfold State.arrive
  split
  · rfl
  · exact raiseLink_responses s _

theorem receptionEnd_responses (s : State) (bytes : List Byte) : (s.receptionEnd bytes).responses = s.responses := by
  unfold State.receptionEnd
  split
  · exact raiseLink_responses _ _
  · dsimp only
    split
    · exact raiseLink_responses _ _
    · exact arrive_responses _ _

theorem choose_responses (s : State) : s.choose.responses = s.responses := by
  unfold State.choose
  split
  · rfl
  · rfl
  · rfl
  · split <;> rfl

theorem setTimeBase_frame (s : State) (n : Nat) : Unchanged [.timeBase] s { s with timeBase := n } := by
  intro f hf; cases f <;> first | rfl | exact absurd (by decide) hf

theorem execTimeBaseAdvance_pool (h : execTimeBaseAdvance s = .next t) : PoolStep P s t :=
  quietEvent_pool h (PoolStep.of_frame (setTimeBase_frame s _))

theorem execFrameArrival_pool {bytes : List Byte} (h : execFrameArrival bytes s = .next t) : PoolStep P s t :=
  quietEvent_pool h (PoolStep.of_link (receptionEnd_frame s bytes) (receptionEnd_responses s bytes))

theorem execOutputChoice_pool (h : execOutputChoice s = .next t) : PoolStep P s t :=
  quietEvent_pool h (PoolStep.of_link (choose_frame s) (choose_responses s))

theorem execFrameReceptionStart_pool (h : execFrameReceptionStart s = .next t) : PoolStep P s t := by
  refine quietEvent_pool h ?_
  split
  · exact PoolStep.of_link (setReceiver_frame s _) rfl
  · exact PoolStep.of_frame (raiseLink_frame s _)

theorem takeSupplyLevel_pool (s : State) : PoolStep P s s.takeSupplyLevel := by
  unfold State.takeSupplyLevel
  have f : Unchanged [.supplyTaken] s { s with supplyTaken := s.supplyLowPin } := by
    intro f hf; cases f <;> first | rfl | exact absurd (by decide) hf
  exact PoolStep.ite (fun _ => PoolStep.refl P s)
    (fun _ => (PoolStep.of_frame f).trans (PoolStep.of_frame (limitSet_frame _ _ _)))

theorem setPin_pool (s : State) (b : Bool) (d : Option Nat) : PoolStep P s { s with supplyLowPin := b, debounce := d } :=
  PoolStep.of_frame (setPin_frame s b d)

theorem execSupplyLowChange_pool {b : Bool} (h : execSupplyLowChange b s = .next t) : PoolStep P s t := by
  refine quietEvent_pool h ?_
  refine PoolStep.ite (fun _ => PoolStep.ite (fun _ => ?_) (fun _ => ?_)) (fun _ => ?_)
  · exact (setPin_pool s b none).trans (takeSupplyLevel_pool _)
  · exact setPin_pool s b _
  · exact setPin_pool s b s.debounce

theorem execSupplyLowDebounceExpiry_pool (h : execSupplyLowDebounceExpiry s = .next t) : PoolStep P s t :=
  quietEvent_pool h ((setPin_pool s s.supplyLowPin none).trans (takeSupplyLevel_pool _))

/-! ## The countdowns of slots and records -/

theorem stopStep_pool (s : State) (n : Slot) : KeepsPool P s (s.stopStep n) := setSlot_pool s n { s.slot n with step := none } rfl

theorem execStepCountdownExpiry_pool (h : execStepCountdownExpiry n s = .next t) : PoolStep P s t :=
  event_pool h (fun _ => (stopStep_pool s n).trans (askControl_pool _ n _))

theorem execLimitCountdownExpiry_pool (h : execLimitCountdownExpiry n s = .next t) : PoolStep P s t :=
  event_pool h (fun _ => KeepsPool.ite (fun _ => setSlot_pool s n _ rfl) (fun _ => fault_pool s n _))

theorem queueLeft_pool (s : State) (n : Slot) : KeepsPool P s (s.queueLeft n) := by
  rcases queueLeft_cases s n with h | h | h <;> rw [h]
  · exact KeepsPool.refl P s
  · exact startIdleHold_pool s n
  · exact withdrawReason_pool s n _

/-- A QUEUED record leaves its place in the queue and completes; a dispatched head stays (R85). -/
theorem expired_pool {x : Record} {before after : List Record} (hq : s.queue n = before ++ x :: after) :
    KeepsPool P s ((s.setQueue n (before ++ after)).handOff x .expired [] true) := by
  have f := handOff_frame (s.setQueue n (before ++ after)) x .expired [] true
  have hqueue := queue_of_queues (s := s) (t := (s.setQueue n (before ++ after)).handOff x .expired [] true)
    (f .queues (by decide) : State.queues _ = _).symm
  have hperm : (x :: (before ++ after)).Perm (s.queue n) := by rw [hq]; exact List.perm_middle.symm
  refine KeepsPool.of_queue (n := n) (handedOff_keys hperm _ _ _) (f .requesters (by decide) : State.requesters _ = _).symm
    (f .roundRobin (by decide) : State.roundRobin _ = _).symm (fun m hm => ⟨by rw [hqueue, if_neg hm], fun _ => ⟨?_, ?_⟩⟩)
    (fun r hr => ⟨r, ?_, rfl⟩) (fun h => ?_)
  · exact (f .exchange (by decide) : State.exchange _ = _).symm
  · rw [f.slot m, setQueue_slot]; exact id
  · rw [hqueue, if_pos rfl] at hr
    exact hperm.subset (List.mem_cons_of_mem x hr)
  · obtain ⟨htail, hhead⟩ := h n
    have hexchange : (s.setQueue n (before ++ after)).exchange = _ := f .exchange (by decide)
    rw [hq] at htail hhead
    cases before with
    | nil => exact dispatchAt_of_queued (fun r hr => htail r (by rw [hqueue, if_pos rfl] at hr; exact hr))
    | cons y rest =>
      rw [State.DispatchAt, hqueue, if_pos rfl, f.slot n, setQueue_slot, ← hexchange]
      exact ⟨fun r hr => htail r (by rcases List.mem_append.mp hr with hr | hr <;> simp [hr]), hhead⟩

theorem expiring_queue {r : Requester} {tag : Byte} {x : Record} (h : s.expiring r tag = some (n, x)) :
    ∃ before after, s.queue n = before ++ x :: after ∧ (s.queue n).eraseP (Record.expires r tag) = before ++ after := by
  obtain ⟨m, _, hm⟩ := List.exists_of_findSome?_eq_some h
  obtain ⟨y, hy, hmy⟩ := Option.map_eq_some_iff.mp hm
  obtain ⟨rfl, rfl⟩ := Prod.mk.inj hmy
  obtain ⟨hex, before, after, hq, hbefore⟩ := List.find?_eq_some_iff_append.mp hy
  refine ⟨before, after, hq, ?_⟩
  rw [hq, List.eraseP_append_right _ (fun z hz => by simpa using hbefore z hz), List.eraseP_cons_of_pos hex]

theorem execIdleHoldExpiry_pool (h : execIdleHoldExpiry n s = .next t) : PoolStep P s t :=
  event_pool h (fun _ => startDrain_pool s n _ _)

theorem execLifetimeExpiry_pool {r : Requester} {tag : Byte} (h : execLifetimeExpiry r tag s = .next t) : PoolStep P s t := by
  unfold execLifetimeExpiry at h
  split at h
  · injection h with h; subst h; exact PoolStep.refl P s
  · rename_i m x hexpiring
    obtain ⟨before, after, hq, herase⟩ := expiring_queue hexpiring
    refine event_pool h (fun _ => ?_)
    rw [herase]
    exact (expired_pool hq).trans (queueLeft_pool _ m)

/-! ## The Budget Arbiter -/

theorem execEvaluation_pool (h : execEvaluation s = .next t) : PoolStep P s t :=
  event_pool h (fun _ => (KeepsPool.of_frame (setEvaluationDue_frame s false)).trans (evaluate_pool _ _))

theorem execSelectionPass_pool (h : execSelectionPass s = .next t) : PoolStep P s t :=
  event_pool h (fun _ => (KeepsPool.of_frame (setPassDue_frame s false)).trans (selectVictims_pool _ _))

/-! ## The chain -/

theorem execChainSelection_pool (hp : ¬ P) (h : execChainSelection s = .next t) : PoolStep P s t :=
  event_pool h (fun hd => by
    simp only [State.selectionOpen, Bool.and_eq_true, Option.isNone_iff_eq_none] at hd
    have k := select_pool hd.1.2
    exact ⟨k.bounded, k.tags, k.queues, k.dispatches, fun p => absurd p hp⟩)

theorem toPhase_step (s : State) (p : AttemptPhase) (o : Option Nat) : PoolStep P s (s.toPhase p o) :=
  ⟨toPhase_pool s p o, fun h => h⟩

theorem execCommandSent_pool (h : execCommandSent s = .next t) : PoolStep P s t := quietEvent_pool h (toPhase_step s _ _)

theorem execReplyStart_pool (h : execReplyStart s = .next t) : PoolStep P s t := quietEvent_pool h (toPhase_step s _ _)

theorem execReplyByteReceived_pool (h : execReplyByteReceived s = .next t) : PoolStep P s t :=
  quietEvent_pool h (toPhase_step s _ _)

theorem execResponseTimeoutExpiry_pool (h : execResponseTimeoutExpiry s = .next t) : PoolStep P s t := by
  unfold execResponseTimeoutExpiry at h
  split at h
  · injection h with h; subst h; exact PoolStep.refl P s
  · rename_i e he
    refine event_pool h (fun _ => ?_)
    split
    · exact KeepsPool.refl P s
    · exact attemptEnd_pool he _
    · exact attemptEnd_pool he _

theorem execReplyEnd_pool {bytes : List Byte} (h : execReplyEnd bytes s = .next t) : PoolStep P s t := by
  unfold execReplyEnd at h
  split at h
  · injection h with h; subst h; exact PoolStep.refl P s
  · rename_i e he
    exact event_pool h (fun _ => attemptEnd_pool he _)

theorem execRestartCompletion_pool (h : execRestartCompletion s = .next t) : PoolStep P s t := by
  injection h with h
  subst h
  split
  · exact completeRestart_pool _
  · exact PoolStep.refl P s

/-! ## Every command, every step -/

/-- Every command keeps the laws of the record pool, and all but two leave the pointer (R109). -/
theorem exec_pool (c : Instr) (h : exec c s = .next t) :
    PoolStep (c ≠ .chainSelection ∧ ∀ cause, c ≠ .coldReset cause) s t := by
  cases c with
  | coldReset cause => exact execColdReset_pool (fun p => p.2 cause rfl) h
  | start => exact execStart_pool h
  | timeBaseAdvance => exact execTimeBaseAdvance_pool h
  | supplyLowChange => exact execSupplyLowChange_pool h
  | supplyLowDebounceExpiry => exact execSupplyLowDebounceExpiry_pool h
  | atnChange => exact execAtnChange_pool h
  | attentionHoldoffExpiry => exact execAttentionHoldoffExpiry_pool h
  | frameArrival => exact execFrameArrival_pool h
  | read => exact take_pool admitData_pool h
  | write => exact take_pool admitData_pool h
  | writePosted => exact take_pool admitData_pool h
  | readEntry => exact manage_pool readEntryOp_pool h
  | writeEntryUnit => exact manage_pool writeUnitOp_pool h
  | writeEntryRequester => exact manage_pool writeRequesterOp_pool h
  | writeEntryProfile => exact manage_pool writeProfileOp_pool h
  | writeEntryChain => exact manage_pool writeChainOp_pool h
  | writeEntryBudget => exact manage_pool writeBudgetOp_pool h
  | findUnit => exact manage_pool findUnitOp_pool h
  | readSlot => exact manage_pool (withSlot_pool (fun _ _ _ => respond_pool _ _ _ _)) h
  | readQueue => exact manage_pool (withSlot_pool (fun _ _ _ => respond_pool _ _ _ _)) h
  | readBudget => exact manage_pool (fun _ _ _ => respond_pool _ _ _ _) h
  | slotWake => exact manage_pool slotWakeOp_pool h
  | slotRest => exact manage_pool (withSlot_pool slotRestOp_pool) h
  | slotOff => exact manage_pool (withSlot_pool slotOffOp_pool) h
  | pin => exact manage_pool (withSlot_pool pinOp_pool) h
  | unpin => exact manage_pool (withSlot_pool unpinOp_pool) h
  | slotClear => exact manage_pool (withSlot_pool slotClearOp_pool) h
  | readFault => exact manage_pool readFaultOp_pool h
  | clearFault => exact manage_pool clearFaultOp_pool h
  | restart => exact manage_pool restartOp_pool h
  | restartCompletion => exact execRestartCompletion_pool h
  | evaluation => exact execEvaluation_pool h
  | selectionPass => exact execSelectionPass_pool h
  | stepCountdownExpiry => exact execStepCountdownExpiry_pool h
  | limitCountdownExpiry => exact execLimitCountdownExpiry_pool h
  | idleHoldExpiry => exact execIdleHoldExpiry_pool h
  | lifetimeExpiry => exact execLifetimeExpiry_pool h
  | chainSelection => exact execChainSelection_pool (fun p => p.1 rfl) h
  | commandSent => exact execCommandSent_pool h
  | replyStart => exact execReplyStart_pool h
  | responseTimeoutExpiry => exact execResponseTimeoutExpiry_pool h
  | replyEnd => exact execReplyEnd_pool h
  | outputChoice => exact execOutputChoice_pool h
  | transmissionEnd => exact execTransmissionEnd_pool h
  | frameReceptionStart => exact execFrameReceptionStart_pool h
  | replyByteReceived => exact execReplyByteReceived_pool h

theorem step_pool (h : step s = .next t) : PoolStep False s t := by
  unfold step at h
  split at h
  · injection h with h; subst h; exact PoolStep.refl _ s
  · rename_i i rest _
    obtain ⟨k, hclaims⟩ := exec_pool i h
    exact (PoolStep.of_frame (setPending_frame s rest)).trans
      ⟨⟨k.bounded, k.tags, k.queues, k.dispatches, False.elim⟩, hclaims⟩

/-- Settles O58: the relation `PoolStep` of every command, by its cases. -/
theorem stepKeepsRecordPool : Obligations.StepKeepsRecordPool := by
  unfold Obligations.StepKeepsRecordPool
  intro s t h
  obtain ⟨k, hclaims⟩ := step_pool h
  exact ⟨k.bounded, k.tags, k.queues, k.dispatches, hclaims⟩

end Sys2Proof.Machine
end

section
/-! The checks that every request passes, for every take command at once (R71, R72, R73, R146). -/

set_option Elab.async false

namespace Sys2Proof.Machine

/-! ## Forms and operations -/

/-- Every take command is one form check and one operation; a management operation asks for the manage right first. -/
theorem exec_takeCommand (k : TakeKind) : ∃ (α : Type) (form : List Byte → Option α) (carry : Taken → α → State → State),
    (∀ s, exec (takeCommand k) s = take k form carry s) ∧ (∀ frame, formOk k frame = (form frame).isSome) ∧
      ((∀ op, k ≠ .data op) → ∃ op, carry = manage op) := by
  cases k with
  | data op => cases op <;> exact ⟨_, dataForm _, admitData, fun _ => rfl, fun _ => rfl, fun h => absurd rfl (h _)⟩
  | _ => exact ⟨_, _, _, fun _ => rfl, fun _ => rfl, fun _ => ⟨_, rfl⟩⟩

theorem takeKindOf_arguments {code : Byte} {frame args : List Byte} (h : argumentsOf code frame = some args) :
    takeKindOf frame = managementTake code args := by
  unfold argumentsOf at h
  split at h
  · split at h
    · rename_i hw
      obtain rfl := Option.some.inj h
      rw [takeKindOf, if_pos hw.1, hw.2]
    · exact absurd h (by simp)
  · exact absurd h (by simp)

theorem noArguments_arguments {code : Byte} {frame : List Byte} (h : (noArguments code frame).isSome = true) :
    argumentsOf code frame = some [] := by
  unfold noArguments at h
  split at h
  · assumption
  · exact Bool.noConfusion h

theorem oneArgument_arguments {code : Byte} {frame : List Byte} (h : (oneArgument code frame).isSome = true) :
    ∃ a, argumentsOf code frame = some [a] := by
  unfold oneArgument at h
  split at h
  · exact ⟨_, by assumption⟩
  · exact Bool.noConfusion h

theorem writeEntryArguments_takeKindOf {tb : Table} {frame : List Byte} (h : (writeEntryArguments tb frame).isSome = true) :
    takeKindOf frame = some (writeTake tb) := by
  unfold writeEntryArguments at h
  split at h
  · rename_i ha
    split at h
    · rename_i ht
      rw [takeKindOf_arguments ha]
      simp [managementTake, ht.1]
    · exact Bool.noConfusion h
  · exact Bool.noConfusion h

/-- A frame that passes check 1 of a data request names the operation, and so does the request. -/
theorem dataForm_operation {op : DataOp} {frame : List Byte} {q : DataRequest} (h : dataForm op frame = some q) :
    takeKindOf frame = some (.data op) ∧ q.op = op := by
  unfold dataForm at h
  split at h
  · rw [Option.ite_none_right_eq_some] at h
    obtain ⟨⟨hunit, hop, _⟩, hq⟩ := h
    exact ⟨by rw [takeKindOf, if_neg hunit, hop]; rfl, by rw [← Option.some.inj hq]⟩
  · exact absurd h (by simp)

/-- A frame that passes a command's form check names the command's operation. -/
theorem formOk_takeKindOf {k : TakeKind} {frame : List Byte} (h : formOk k frame = true) : takeKindOf frame = some k := by
  have hnone : ∀ {code}, (noArguments code frame).isSome = true → takeKindOf frame = managementTake code [] :=
    fun h => takeKindOf_arguments (noArguments_arguments h)
  have hone : ∀ {code}, (oneArgument code frame).isSome = true → ∃ a, takeKindOf frame = managementTake code [a] :=
    fun h => (oneArgument_arguments h).imp (fun _ ha => takeKindOf_arguments ha)
  cases k with
  | data op =>
    obtain ⟨q, hq⟩ := Option.isSome_iff_exists.mp h
    exact (dataForm_operation hq).1
  | writeUnit | writeRequester | writeProfile | writeChain | writeBudget => exact writeEntryArguments_takeKindOf h
  | readEntry =>
    simp only [formOk, readEntryArguments] at h
    split at h
    · exact takeKindOf_arguments (by assumption)
    · exact Bool.noConfusion h
  | findUnit =>
    simp only [formOk, unitArgument] at h
    split at h
    · exact takeKindOf_arguments (by assumption)
    · exact Bool.noConfusion h
  | slotWake =>
    simp only [formOk, wakeArguments] at h
    split at h
    · exact takeKindOf_arguments (by assumption)
    · exact Bool.noConfusion h
  | readBudget | readFault | restart => exact hnone h
  | readSlot | readQueue | slotRest | slotOff | pin | unpin | slotClear | clearFault =>
    obtain ⟨a, ha⟩ := hone h
    exact ha

/-! ## The checks in order -/

/-- Settles O14: every take command is one form check and one operation, by the checks of admission in turn. -/
theorem commonChecksRefuseInOrder : Obligations.CommonChecksRefuseInOrder := by
  unfold Obligations.CommonChecksRefuseInOrder
  intro k frame rest c s hdue
  obtain ⟨α, form, carry, hexec, hform, hmanage⟩ := exec_takeCommand k
  refine ⟨fun hbad => ?_, fun hkind hok => ?_⟩
  · have hnone : form frame = none := by
      rw [← Option.not_isSome_iff_eq_none, ← hform]
      rcases hbad with hkind | ⟨_, hok⟩
      · intro hok
        rw [formOk_takeKindOf hok] at hkind
        exact absurd hkind (by simp)
      · rw [hok]; exact Bool.noConfusion
    rw [hexec, take_due s hdue (hbad.imp id And.left), hnone]
    exact congrArg _ (respond_answered s c rest .malformed [])
  · obtain ⟨a, ha⟩ := Option.isSome_iff_exists.mp ((hform frame).symm.trans hok)
    have hrun : exec (takeCommand k) s = .next (commonChecks c (some a) carry { s with ingress := rest }) := by
      rw [hexec, take_due s hdue (Or.inr hkind), ha]
    refine ⟨fun hoff => ?_, fun hon htag => ?_, fun hdata hserved hright => ?_⟩
    · have hoff' : (State.requester { s with ingress := rest } c.requester).enabled = false := hoff
      rw [hrun, commonChecks, if_pos hoff', respond_answered]
    · have hon' : ¬ (State.requester { s with ingress := rest } c.requester).enabled = false := by
        rw [Bool.not_eq_false]; exact hon
      have htag' : State.tagInUse { s with ingress := rest } c.requester c.tag = true := htag
      rw [hrun, commonChecks, if_neg hon', if_pos htag', respond_answered]
    · obtain ⟨op, rfl⟩ := hmanage hdata
      have hright' : (State.requester { s with ingress := rest } c.requester).manage = false := hright
      rw [hrun, admit_served s hserved, manage, if_pos hright', respond_answered]

/-! ## Checks 5 to 11 -/

/-- The checks of a request read nothing of ingress. -/
theorem checkRequest_ingress (s : State) (rest : List (List Byte)) (c : Taken) (q : DataRequest) :
    State.checkRequest { s with ingress := rest } c q = s.checkRequest c q := rfl

/-- A data request past check 4 is admitted, or refused, on the state without its frame. -/
theorem take_data {op : DataOp} {q : DataRequest} {frame : List Byte} {rest : List (List Byte)} {c : Taken} {s : State}
    (hdue : s.takeDue c frame rest) (hkind : takeKindOf frame = some (.data op)) (hform : dataForm op frame = some q)
    (hserved : s.served c) : exec (takeCommand (.data op)) s = .next (admitData c q { s with ingress := rest }) := by
  have hexec : exec (takeCommand (.data op)) s = take (.data op) (dataForm op) admitData s := by cases op <;> rfl
  rw [hexec, take_due s hdue (Or.inr hkind), hform, admit_served s hserved]

theorem take_data_refused {op : DataOp} {q : DataRequest} {frame : List Byte} {rest : List (List Byte)} {c : Taken} {s : State}
    {st : Status} (hdue : s.takeDue c frame rest) (hkind : takeKindOf frame = some (.data op)) (hform : dataForm op frame = some q)
    (hserved : s.served c) (hcheck : s.checkRequest c q = .error st) :
    exec (takeCommand (.data op)) s = .next (s.answered c rest st []) := by
  rw [take_data hdue hkind hform hserved, admitData, checkRequest_ingress, hcheck]
  rfl

/-- Settles O15: `checkRequest` is the chain of checks 5 to 11. -/
theorem admissionRefusesInOrder : Obligations.AdmissionRefusesInOrder := by
  unfold Obligations.AdmissionRefusesInOrder
  intro op q frame rest c s hdue hkind hform hserved
  obtain ⟨_, rfl⟩ := dataForm_operation hform
  refine ⟨fun hlookup => take_data_refused hdue hkind hform hserved (by rw [State.checkRequest, hlookup]),
    fun i e hlookup => ?_⟩
  intro refusal st hst
  refine take_data_refused hdue hkind hform hserved ?_
  have hcheck : s.checkRequest c q = refusal.elim (.ok e) .error := by
    simp only [State.checkRequest, hlookup, refusal, ite_or, apply_ite (fun r : Option Status => r.elim (Except.ok e) .error),
      Option.elim_some, Option.elim_none]
    rfl
  rw [hcheck, hst, Option.elim_some]

end Sys2Proof.Machine
end

section
/-! A record joins the queue of its slot, which is acted on by its state; and the data request that makes it (R68, R71, R80, R81). -/

set_option Elab.async false

namespace Sys2Proof.Machine

variable {s t u : State} {n : Slot}

/-! ## The slot that a record joins (R81) -/

/-- What a record that joins can change. -/
abbrev joinFields : List Field :=
  [.queues, .slots, .control, .attention, .notices, .lostCount, .firstLoss, .wake, .joinCounter, .evaluationDue]

theorem joinQueue_resting (hs : (s.slot n).state.resting = true) (r : Record) :
    s.joinQueue n r = (s.setQueue n (s.queue n ++ [r])).gainReason n .work ((s.setQueue n (s.queue n ++ [r])).workLevel n) := by
  cases h : (s.slot n).state with
  | off | slumber => simp [State.joinQueue, h]
  | _ => rw [h] at hs; exact Bool.noConfusion hs

theorem joinQueue_idleDraining (hs : (s.slot n).idleDraining = true) (r : Record) :
    s.joinQueue n r = (s.setQueue n (s.queue n ++ [r])).cancelDrain n := by
  simp [State.joinQueue, idleDraining_state hs, hs]

/-- In every other state the record only joins. -/
theorem joinQueue_plain (hawake : (s.slot n).state ≠ .awake) (hdrain : (s.slot n).idleDraining = false)
    (hrest : (s.slot n).state.resting = false) (r : Record) : s.joinQueue n r = s.setQueue n (s.queue n ++ [r]) := by
  cases h : (s.slot n).state with
  | awake => exact absurd h hawake
  | off | slumber => rw [h] at hrest; exact Bool.noConfusion hrest
  | draining => simp [State.joinQueue, h, hdrain]
  | powering | waking | settling | faulted => simp [State.joinQueue, h]

theorem joinQueue_cases (s : State) (n : Slot) (r : Record) :
    (s.slot n).state = .awake ∨ (s.slot n).idleDraining = true ∨ (s.slot n).state.resting = true ∨
      s.joinQueue n r = s.setQueue n (s.queue n ++ [r]) := by
  by_cases hawake : (s.slot n).state = .awake
  · exact Or.inl hawake
  · cases hdrain : (s.slot n).idleDraining with
    | true => exact Or.inr (Or.inl rfl)
    | false =>
      cases hrest : (s.slot n).state.resting with
      | true => exact Or.inr (Or.inr (Or.inl rfl))
      | false => exact Or.inr (Or.inr (Or.inr (joinQueue_plain hawake hdrain hrest r)))

theorem joinQueue_joinFields (s : State) (n : Slot) (r : Record) : Unchanged joinFields s (s.joinQueue n r) := by
  have f := (setQueue_frame s n (s.queue n ++ [r])).mono (b := joinFields) (by decide)
  rcases joinQueue_cases s n r with h | h | h | h
  · rw [joinQueue_awake h]
    exact f.trans ((setSlot_frame _ n _).mono (by decide))
  · obtain ⟨-, -, -, fc⟩ := cancelDrain_effect (s := s.setQueue n (s.queue n ++ [r])) (idleDraining_state h)
    rw [joinQueue_idleDraining h]
    exact f.trans (fc.mono (by decide))
  · rw [joinQueue_resting h]
    exact f.trans ((gainReason_frame _ n _ _).mono (by decide))
  · rw [h]; exact f

theorem joinQueue_onlySlot (s : State) (n : Slot) (r : Record) : OnlySlot n s (s.joinQueue n r) := by
  have ho := setQueue_onlySlot s n (s.queue n ++ [r])
  rcases joinQueue_cases s n r with h | h | h | h
  · rw [joinQueue_awake h]
    exact ho.trans (setSlot_onlySlot _ n _)
  · obtain ⟨-, -, hc, -⟩ := cancelDrain_effect (s := s.setQueue n (s.queue n ++ [r])) (idleDraining_state h)
    rw [joinQueue_idleDraining h]
    exact ho.trans hc
  · rw [joinQueue_resting h]
    exact ho.trans ((gainReason_frame _ n _ _).onlySlot n (by decide) (by decide) (by decide) (by decide))
  · rw [h]; exact ho

theorem joinQueue_slot_awake (hs : (s.slot n).state = .awake) (r : Record) :
    (s.joinQueue n r).slot n = { s.slot n with step := none } := by
  rw [joinQueue_awake hs, stopStep_slot, setQueue_slot]

theorem joinQueue_slot_idleDraining (hs : (s.slot n).idleDraining = true) (r : Record) :
    (s.joinQueue n r).slot n = (s.slot n).changed .awake := by
  rw [joinQueue_idleDraining hs, (cancelDrain_effect (s := s.setQueue n (s.queue n ++ [r])) (idleDraining_state hs)).1, setQueue_slot]

theorem joinQueue_slot_same (hawake : (s.slot n).state ≠ .awake) (hdrain : (s.slot n).idleDraining = false) (r : Record) :
    (s.joinQueue n r).slot n = s.slot n := by
  cases hrest : (s.slot n).state.resting with
  | true => rw [joinQueue_resting hrest, (gainReason_frame _ n _ _).slot n, setQueue_slot]
  | false => rw [joinQueue_plain hawake hdrain hrest, setQueue_slot]

theorem joinQueue_listed (hs : (s.slot n).state.resting = true) (r : Record) : (s.joinQueue n r).listed n = true := by
  rw [joinQueue_resting hs]
  exact gainReason_listed _ n _ _

/-! ## The record of a request (R68) -/

theorem lowerLevel_eq (a b : Level) : lowerLevel a b = if a = .urgent ∧ b = .urgent then .urgent else .normal := by
  cases a <;> cases b <;> rfl

theorem deadlineOf_eq (lifetime default : Nat) :
    deadlineOf lifetime default = if 0 < lifetime then some lifetime else if 0 < default then some default else none := by
  simp only [deadlineOf, Nat.pos_iff_ne_zero]

/-- The checks 5 to 11 all pass. -/
theorem checkRequest_admits {c : Taken} {q : DataRequest} {e : UnitEntry} (h : s.admits c q e) : s.checkRequest c q = .ok e := by
  obtain ⟨hlookup, hmask, hpermits, hrange, hpresent, hfaulted, hlimit, hqueue, hpool⟩ := h
  obtain ⟨⟨i, e'⟩, hfound, rfl⟩ := Option.map_eq_some_iff.mp hlookup
  simp only [State.checkRequest, hfound]
  rw [if_neg (by simp [hmask, hpermits]), if_neg (not_lt.mpr hrange), if_neg (by simp [hpresent]), if_neg hfaulted,
    if_neg (not_le.mpr hlimit), if_neg (not_le.mpr hqueue), if_neg (not_le.mpr hpool)]

/-! ## The accepted request -/

/-- The state in which the record of an accepted request has joined, and a posted write is answered (R80, R89). -/
def State.accepted (s : State) (c : Taken) (q : DataRequest) (e : UnitEntry) : State :=
  let s1 := s.joinQueue e.slot (s.requestRecord c e q)
  if q.op = .writePosted then s1.respond c .posted [] else s1

theorem admitData_accepted {c : Taken} {q : DataRequest} {e : UnitEntry} (h : s.checkRequest c q = .ok e) :
    admitData c q s = s.finish (s.accepted c q e) := by
  rw [admitData, h]
  rfl

theorem accepted_frame (s : State) (c : Taken) (q : DataRequest) (e : UnitEntry) :
    Unchanged [.immediate, .responses] (s.joinQueue e.slot (s.requestRecord c e q)) (s.accepted c q e) :=
  Unchanged.ite (fun _ => respond_frame _ c _ _) (fun _ => Unchanged.refl _ _)

theorem accepted_keys (s : State) (c : Taken) (q : DataRequest) (e : UnitEntry) :
    (s.accepted c q e).keys = {(s.requestRecord c e q).key} + s.keys := by
  unfold State.accepted
  dsimp only
  split
  · rw [respond_keys, joinQueue_keys]
  · exact joinQueue_keys s _ _

theorem accepted_answer (s : State) (c : Taken) (q : DataRequest) (e : UnitEntry) :
    if q.op = .writePosted then
      (s.accepted c q e).responses = s.responses ++ [.immediate c.entry] ∧
        (s.accepted c q e).immediate = s.immediate.set c.entry
          (.ready { requester := c.requester, tag := c.tag, status := .posted, contents := [] })
    else (s.accepted c q e).responses = s.responses ∧ (s.accepted c q e).immediate = s.immediate := by
  have f := joinQueue_joinFields s e.slot (s.requestRecord c e q)
  have hresponses : s.responses = _ := f .responses (by decide)
  have himmediate : s.immediate = _ := f .immediate (by decide)
  unfold State.accepted
  dsimp only
  split
  · rw [hresponses, himmediate]
    exact ⟨rfl, rfl⟩
  · exact ⟨hresponses.symm, himmediate.symm⟩

/-- Where no claim waits, the end of the event can make an evaluation or a selection pass due, and nothing else. -/
theorem accepted_finish (c : Taken) (q : DataRequest) (e : UnitEntry) (h : s.claims = []) :
    Unchanged [.evaluationDue, .passDue] (s.accepted c q e) (s.finish (s.accepted c q e)) := by
  have f := joinQueue_joinFields s e.slot (s.requestRecord c e q)
  have fa := accepted_frame s c q e
  refine finish_frame_due (Or.inl ?_) ((f .committed (by decide)).trans (fa .committed (by decide)) : s.committed = _).le
  rw [← (fa .claims (by decide) : State.claims _ = _), joinQueue_claims]
  exact h

/-- Every field that R68 gives the record of a request. -/
theorem requestRecord_eq (s : State) (c : Taken) (e : UnitEntry) (q : DataRequest) : s.requestRecord c e q =
    { owner := .requester c.requester, tag := some c.tag, unit := some q.unit, slot := e.slot, op := q.op,
      address := e.base + q.offset, length := q.length,
      writeData := match q.op with
        | .read => none
        | .write => some q.data
        | .writePosted => some q.data
      readData := none,
      level := if e.level = .urgent ∧ (s.requester c.requester).ceiling = .urgent then .urgent else .normal,
      deadline := if 0 < q.lifetime then some q.lifetime
        else if 0 < e.defaultLifetime then some e.defaultLifetime else none,
      state := .queued, attempt := 0, status := none } := by
  rw [State.requestRecord, lowerLevel_eq, deadlineOf_eq]
  congr 1
  cases q.op <;> rfl

/-- Settles O16: the record joins its slot's queue, and the end of the event can only make passes due, since no claim waits. -/
theorem acceptedRequestBecomesRecord : Obligations.AcceptedRequestBecomesRecord := by
  unfold Obligations.AcceptedRequestBecomesRecord
  intro op q e frame rest c s hdue hkind hform hserved hadmits hclaims
  obtain ⟨_, rfl⟩ := dataForm_operation hform
  intro n r
  have ⟨_, _, _, _, _, _, _, _, hfree⟩ := hadmits
  have hrun : exec (takeCommand (.data q.op)) s = .next ((s.unqueued rest).finish ((s.unqueued rest).accepted c q e)) := by
    rw [take_data hdue hkind hform hserved]
    exact congrArg _ (admitData_accepted (s := s.unqueued rest) (checkRequest_admits hadmits))
  have hrecord : (s.unqueued rest).requestRecord c e q = r := requestRecord_eq (s.unqueued rest) c e q
  have fjoin : Unchanged joinFields (s.unqueued rest) ((s.unqueued rest).joinQueue n r) := joinQueue_joinFields _ n r
  have fanswer := accepted_frame (s.unqueued rest) c q e
  rw [hrecord] at fanswer
  have ffinish := accepted_finish (s := s.unqueued rest) c q e (hclaims.resolve_right (not_le.mpr hfree))
  have hanswer := accepted_answer (s.unqueued rest) c q e
  generalize hu : (s.unqueued rest).joinQueue n r = u at fjoin fanswer
  generalize ht : (s.unqueued rest).finish ((s.unqueued rest).accepted c q e) = t at ffinish hrun
  have fafter : Unchanged [.immediate, .responses, .evaluationDue, .passDue] u t := fanswer.andThen ffinish (by decide) (by decide)
  have fall : Unchanged (.passDue :: .immediate :: .responses :: joinFields) (s.unqueued rest) t :=
    fjoin.andThen fafter (by decide) (by decide)
  have hslot := fafter.slot n
  refine ⟨t, hrun, (fall .ingress (by decide) : State.ingress _ = _).symm, ?_, fun m hm => ?_, ?_, ?_, ?_,
    fall.fromIngress⟩
  · rw [fafter.queue n, ← hu, joinQueue_queue]
    rfl
  · obtain ⟨hslot, -, hqueue, -⟩ := joinQueue_onlySlot (s.unqueued rest) n r m hm
    rw [hu] at hslot hqueue
    exact ⟨(fafter.slot m).trans hslot, (fafter.queue m).trans hqueue⟩
  · have hkeys := ffinish.keys.trans (accepted_keys (s.unqueued rest) c q e)
    have howner : ((s.unqueued rest).requestRecord c e q).owner = .requester c.requester := rfl
    rw [liveCount_join hkeys, if_pos howner, add_comm]
    rfl
  · rw [← (ffinish .responses (by decide) : State.responses _ = _), ← (ffinish .immediate (by decide) : State.immediate _ = _)]
    exact hanswer
  · have hplain : (s.slot n).state ≠ .awake → (s.slot n).idleDraining = false → t.slot n = s.slot n := fun hawake hdrain => by
      rw [hslot, ← hu]
      exact joinQueue_slot_same (s := s.unqueued rest) hawake hdrain r
    have hlisted : (s.slot n).state.resting = true → t.listed n = true := fun hrest => by
      rw [fafter.listed n, ← hu]
      exact joinQueue_listed (s := s.unqueued rest) hrest r
    cases hs : (s.slot n).state with
    | awake =>
      rw [hslot, ← hu]
      exact joinQueue_slot_awake (s := s.unqueued rest) hs r
    | draining =>
      have hawake : (s.slot n).state ≠ .awake := by rw [hs]; decide
      cases hd : (s.slot n).drain with
      | none => exact hplain hawake (by simp [SlotRecord.idleDraining, hd])
      | some d =>
        dsimp only
        split
        · rename_i hidle
          have hdrain : (s.slot n).idleDraining = true := by simp [SlotRecord.idleDraining, hs, hd, hidle]
          rw [hslot, ← hu, joinQueue_slot_idleDraining (s := s.unqueued rest) hdrain r]
          exact ⟨rfl, rfl, rfl⟩
        · rename_i hother
          exact hplain hawake (idleDraining_drain hd hother)
    | off | slumber =>
      exact ⟨hplain (by rw [hs]; decide) (not_idleDraining_of_state (by rw [hs]; decide)), hlisted (by rw [hs]; rfl)⟩
    | powering | waking | settling => exact hplain (by rw [hs]; decide) (not_idleDraining_of_state (by rw [hs]; decide))
    | faulted => trivial

end Sys2Proof.Machine
end

section
/-! The end of a transmission: the response that leaves, and the record it frees (R79, R93, R182). -/

set_option Elab.async false

namespace Sys2Proof.Machine

variable {s t u : State} {n : Slot}

/-! ## The end of an event -/

/-- An event that moves no slot, queue, exchange, attention record or weight ends as it is, where no claim can be served. -/
theorem finish_unmoved {a : List Field} (f : Unchanged a s t) (h : t.claimsSound)
    (ha : ∀ g ∈ [Field.slots, .committed, .queues, .exchange, .attention], g ∉ a := by decide) : s.finish t = t := by
  have hslots : Field.slots ∉ a := ha _ (by decide)
  refine finish_quiet s t h (newCandidate_same s t (fun k hk => ?_) (fun k hk => ?_))
    (courseChanged_same s t (f .committed (ha _ (by decide))) (fun k => ?_))
  · rwa [f.candidate k hslots (ha _ (by decide)) (ha _ (by decide)) (ha _ (by decide))] at hk
  · rwa [f.slot k hslots] at hk
  · rw [f.slot k hslots]; exact ⟨rfl, rfl⟩

/-- The claims are served once: what ends the event acts on the state with its claims served. -/
theorem finish_served (s t : State) : s.finish t = s.finish t.serveClaims := by
  rw [State.finish, State.finish, serveClaims_none _ (serveClaims_claimsSound t)]

/-- With one record free the oldest claim gets it (R79). -/
theorem serveClaims_oldest {claims : List Slot} (hc : s.claims = n :: claims) (hfree : s.liveTotal + 1 = Config.poolSize) :
    s.serveClaims = ({ s with claims := claims } : State).createFetch n := by
  have hone : Config.poolSize - s.liveTotal = 1 := by omega
  simp only [State.serveClaims, hone, hc]
  rfl

/-! ## The fetch that a claim gets (R125) -/

theorem cancelDrain_att (h : (s.att n).phase ≠ .waitingAwake) : (s.cancelDrain n).att n = s.att n := by
  have f := changeState_frame s n .awake []
  have hphase : ¬ (((s.changeState n .awake []).att n).phase = .waitingAwake ∧ (s.changeState n .awake []).restarting = false) := by
    rw [f.att n]
    exact fun hw => h hw.1
  rw [State.cancelDrain, if_neg hphase, f.att n]

/-- A record that joins ends an attention action only where that waits for AWAKE. -/
theorem joinQueue_att (h : (s.att n).phase ≠ .waitingAwake) (r : Record) : (s.joinQueue n r).att n = s.att n := by
  have hqueue : (s.setQueue n (s.queue n ++ [r])).att n = s.att n := setQueue_att s n n _
  rcases joinQueue_cases s n r with hs | hs | hs | hs
  · rw [joinQueue_awake hs]; exact hqueue
  · rw [joinQueue_idleDraining hs, cancelDrain_att (by rw [hqueue]; exact h), hqueue]
  · rw [joinQueue_resting hs, (gainReason_frame _ n _ _).att n, hqueue]
  · rw [hs]; exact hqueue

theorem createFetch_att (s : State) (n : Slot) : ((s.createFetch n).att n).phase = .fetching := by
  have hphase : ((s.setAtt n { s.att n with phase := .fetching }).att n).phase = .fetching := by rw [setAtt_att_self]
  have hjoin := joinQueue_att (s := s.setAtt n { s.att n with phase := .fetching }) (n := n) (by rw [hphase]; decide)
    ((s.setAtt n { s.att n with phase := .fetching }).fetchRecord n)
  exact (congrArg AttentionRecord.phase hjoin).trans hphase

theorem createFetch_queue (s : State) (n : Slot) : (s.createFetch n).queue n = s.queue n ++ [s.fetchRecord n] :=
  joinQueue_queue (s.setAtt n { s.att n with phase := .fetching }) n _

/-! ## The response that has been sent -/

theorem transmissionEnd_response {frame : List Byte} (hr : s.running = true) (ht : s.transmitter = .response frame) :
    exec .transmissionEnd s = .next (s.finish s.responseSent) := by
  simp only [exec, execTransmissionEnd, hr, ht]

theorem responseSent_immediate {i : Fin 16} {rest : List ResponseItem} (h : s.responses = .immediate i :: rest) :
    s.responseSent = { s with transmitter := .idle, responses := rest, immediate := s.immediate.set i .free } := by
  simp only [State.responseSent, h, List.tail_cons]

theorem responseSent_record {r : Record} {rest : List ResponseItem} (h : s.responses = .record r :: rest) :
    s.responseSent = { s with transmitter := .idle, responses := rest } := by
  simp only [State.responseSent, h, List.tail_cons]

/-- A record that has been sent is live no more (R93). -/
theorem responseSent_freed {r : Record} {rest : List ResponseItem} (h : s.responses = .record r :: rest) :
    s.responseSent.liveTotal + 1 = s.liveTotal := by
  have hkeys : s.keys = {r.key} + s.responseSent.keys := by
    have hitem : (ResponseItem.record r :: rest).filterMap ResponseItem.record? = r :: rest.filterMap ResponseItem.record? := rfl
    rw [responseSent_record h, keys_eq, keys_eq, h, hitem, keysOf_cons, add_left_comm]
  rw [← keys_card, ← keys_card, hkeys, Multiset.card_add, Multiset.card_singleton, add_comm]

theorem responseSent_claimsSound {i : Fin 16} {rest : List ResponseItem} (h : s.responses = .immediate i :: rest)
    (hc : s.claimsSound) : s.responseSent.claimsSound := by
  have hkeys : s.responseSent.keys = s.keys := by
    rw [responseSent_immediate h, keys_eq, keys_eq, h]
    rfl
  rw [responseSent_immediate h] at hkeys ⊢
  rw [State.claimsSound, ← keys_card, hkeys, keys_card]
  exact hc

/-- A record freed in a full pool goes to the oldest claim. -/
theorem responseSent_serveClaims {r : Record} {rest : List ResponseItem} {claims : List Slot}
    (h : s.responses = .record r :: rest) (hc : s.claims = n :: claims) (hfull : s.liveTotal = 96) :
    s.responseSent.serveClaims =
      ({ s with transmitter := .idle, responses := rest, claims := claims } : State).createFetch n := by
  have hclaims : s.responseSent.claims = n :: claims := by rw [responseSent_record h]; exact hc
  rw [serveClaims_oldest hclaims ((responseSent_freed h).trans hfull), responseSent_record h]

/-- Settles O55: the item leaves; with a claim waiting in a full pool the end of the event creates its fetch. -/
theorem sentResponseFreesItem : Obligations.SentResponseFreesItem := by
  unfold Obligations.SentResponseFreesItem
  intro frame item rest s hrun htransmitter hresponses
  have hexec := transmissionEnd_response hrun htransmitter
  refine ⟨fun i hi hclaims => ?_, fun r hr hclaims => ?_, fun r n claims hr hclaims hfull => ?_⟩
  · subst hi
    rw [hexec, finish_unmoved (responseSent_frame s) (responseSent_claimsSound hresponses hclaims), responseSent_immediate hresponses]
  · subst hr
    have hsent : s.responseSent.claims = [] := by rw [responseSent_record hresponses]; exact hclaims
    rw [hexec, finish_unmoved (responseSent_frame s) (Or.inl hsent), responseSent_record hresponses]
  · subst hr
    generalize hu : ({ s with transmitter := .idle, responses := rest, claims := claims } : State) = u
    have fu : Unchanged [.transmitter, .responses, .claims] s u := by
      rw [← hu]; intro f hf; cases f <;> first | rfl | exact absurd (by decide) hf
    have hserved : s.responseSent.serveClaims = u.createFetch n := by
      rw [responseSent_serveClaims hresponses hclaims hfull, hu]
    have htotal : (u.createFetch n).liveTotal = 96 := by
      have hsent : s.responseSent.liveTotal = u.liveTotal := by rw [responseSent_record hresponses, ← hu]; rfl
      rw [createFetch_liveTotal, ← hsent, responseSent_freed hresponses, hfull]
    have ffetch : Unchanged wakingFields u (u.createFetch n) := createFetch_frame u n
    have ffinish := finish_sound s (u.createFetch n) (Or.inr htotal.ge)
    have fafter := ffetch.andThen ffinish (c := .passDue :: .shedding :: wakingFields) (by decide) (by decide)
    refine ⟨s.finish (u.createFetch n), by rw [hexec, finish_served, hserved], ?_, ?_, ?_, ?_, ?_, ?_,
      fu.andThen fafter (by decide) (by decide)⟩
    · rw [← (fafter .transmitter (by decide) : u.transmitter = _), ← hu]
    · rw [← (fafter .responses (by decide) : u.responses = _), ← hu]
    · rw [← (ffinish .claims (by decide) : State.claims _ = _), createFetch_claims, ← hu]
    · rw [ffinish.att n]; exact createFetch_att u n
    · rw [ffinish.liveTotal]; exact htotal
    · rw [ffinish.queue n, createFetch_queue, fu.queue n, State.fetchRecord, fu.profile n]

end Sys2Proof.Machine
end

section
/-! The chain selection: control exchanges first, then the chosen offered head (R83, R95, R107 to R110). -/

set_option Elab.async false

namespace Sys2Proof.Machine

variable {s t : State} {n : Slot}

/-! ## The order of the turns (R109) -/

/-- How far a slot stands behind the slot after the pointer, counted upward. -/
def turnDistance (pointer n : Slot) : Nat := (n.val + 23 - pointer.val) % 24

/-- The slot that stands at a distance. -/
def turnSlot (pointer : Slot) (k : Nat) : Slot := Fin.ofNat 24 (pointer.val + 1 + k)

theorem turnSlot_distance (pointer n : Slot) : turnSlot pointer (turnDistance pointer n) = n := by
  apply Fin.ext
  simp only [turnSlot, turnDistance, Fin.val_ofNat]
  omega

theorem distance_turnSlot (pointer : Slot) {k : Nat} (hk : k < 24) : turnDistance pointer (turnSlot pointer k) = k := by
  simp only [turnSlot, turnDistance, Fin.val_ofNat]
  omega

/-- The first slot in turn order with a property is the nearest one. -/
theorem turnOrder_find {pointer : Slot} {p : Slot → Bool} (hn : p n = true)
    (hnearest : ∀ m, p m = true → turnDistance pointer n ≤ turnDistance pointer m) : (turnOrder pointer).find? p = some n := by
  have hlt : turnDistance pointer n < 24 := Nat.mod_lt _ (by decide)
  have hfirst : (List.range 24).find? (p ∘ turnSlot pointer) = some (turnDistance pointer n) := by
    rw [List.find?_range_eq_some]
    refine ⟨?_, List.mem_range.mpr hlt, fun j hj => ?_⟩
    · rw [Function.comp_apply, turnSlot_distance, hn]
    · rw [Function.comp_apply, Bool.not_eq_true']
      refine Bool.eq_false_iff.mpr (fun hp => ?_)
      have hle := hnearest _ hp
      rw [distance_turnSlot pointer (hj.trans hlt)] at hle
      exact absurd hj (not_lt.mpr hle)
  calc (turnOrder pointer).find? p = ((List.range 24).find? (p ∘ turnSlot pointer)).map (turnSlot pointer) := List.find?_map
    _ = some n := by rw [hfirst, Option.map_some, turnSlot_distance]

/-! ## The head that is chosen -/

theorem offersLevel_iff (s : State) (l : Level) (n : Slot) : s.offersLevel l n = true ↔
    (s.slot n).state = .awake ∧ ∃ r rest, s.queue n = r :: rest ∧ r.state = .queued ∧ r.level = l := by
  by_cases hs : (s.slot n).state = .awake
  · cases hq : s.queue n with
    | nil => simp [State.offersLevel, State.offeredHead, hs, hq]
    | cons r rest => by_cases hr : r.state = .queued <;> simp [State.offersLevel, State.offeredHead, Option.filter, hs, hq, hr]
  · simp [State.offersLevel, State.offeredHead, hs]

/-- The highest level goes first, and among equals the nearest slot (R109). -/
theorem chooseSlot_eq {r : Record} {rest : List Record} (hs : (s.slot n).state = .awake) (hq : s.queue n = r :: rest)
    (hr : r.state = .queued) (hfirst : ∀ m x tail, (s.slot m).state = .awake → s.queue m = x :: tail → x.state = .queued →
      (x.level = .urgent → r.level = .urgent) ∧ (x.level = r.level → turnDistance s.roundRobin n ≤ turnDistance s.roundRobin m)) :
    s.chooseSlot = some n := by
  have hfind : (turnOrder s.roundRobin).find? (s.offersLevel r.level) = some n := by
    refine turnOrder_find ((offersLevel_iff s _ n).mpr ⟨hs, r, rest, hq, hr, rfl⟩) (fun m hm => ?_)
    obtain ⟨hms, x, tail, hmq, hx, hlevel⟩ := (offersLevel_iff s _ m).mp hm
    exact (hfirst m x tail hms hmq hx).2 hlevel
  unfold State.chooseSlot
  cases hl : r.level with
  | urgent => rw [← hl, hfind]
  | normal =>
    have hnone : (turnOrder s.roundRobin).find? (s.offersLevel .urgent) = none := by
      refine List.find?_eq_none.mpr (fun m _ hm => ?_)
      obtain ⟨hms, x, tail, hmq, hx, hlevel⟩ := (offersLevel_iff s _ m).mp hm
      have hurgent := (hfirst m x tail hms hmq hx).1 hlevel
      rw [hl] at hurgent
      exact Level.noConfusion hurgent
    rw [hnone, ← hl]
    exact hfind

theorem chooseSlot_none (h : ∀ m x tail, (s.slot m).state = .awake → s.queue m = x :: tail → x.state ≠ .queued) :
    s.chooseSlot = none := by
  have hnone : ∀ l, (turnOrder s.roundRobin).find? (s.offersLevel l) = none := fun l => by
    refine List.find?_eq_none.mpr (fun m _ hm => ?_)
    obtain ⟨hms, x, tail, hmq, hx, -⟩ := (offersLevel_iff s l m).mp hm
    exact h m x tail hms hmq hx
  rw [State.chooseSlot, hnone, hnone]

/-! ## The end of the selection -/

/-- Nothing is a candidate by the start of an exchange on a free chain. -/
theorem candidate_of_free (h : s.exchange = none) (hst : (t.slot n).state = (s.slot n).state)
    (hdrain : (t.slot n).idleDraining = (s.slot n).idleDraining) (hpin : (t.slot n).pin = (s.slot n).pin)
    (hq : t.queue n = s.queue n) (ha : t.att n = s.att n) (hc : t.candidate n = true) : s.candidate n = true := by
  simp only [State.candidate, State.idleSlot, Bool.and_eq_true, hst, hdrain, hpin, hq, ha] at hc ⊢
  obtain ⟨⟨⟨⟨hstate, hempty⟩, -⟩, hphase⟩, hpinned⟩ := hc
  exact ⟨⟨⟨⟨hstate, hempty⟩, by rw [inFlight_of_free h n]; rfl⟩, hphase⟩, hpinned⟩

theorem chainSelection_run (hrun : s.running = true) (hx : s.exchange = none) (hst : s.stopped = false) :
    exec .chainSelection s = .next (s.finish s.select) := by
  have hopen : s.selectionOpen = true := by simp [State.selectionOpen, hrun, hx, hst]
  show event s.selectionOpen s State.select = _
  rw [hopen, event_due]

/-- A control exchange that is no SLUMBER starts and ends the event there. -/
theorem finish_startControl (h : s.claimsSound) (hx : s.exchange = none) {c : ControlEntry} (hc : c.command ≠ .slumber)
    (rest : List ControlEntry) :
    s.finish (s.startControl c rest) = { s with control := rest, exchange := some (controlExchange c) } := by
  have f := startControl_frame s c rest
  rw [State.startControl, if_neg hc]
  refine finish_quiet s _ (f.claimsSound h) (newCandidate_same s _ (fun k hk => ?_) (fun k hk => hk))
    (courseChanged_same s _ rfl (fun k => ⟨rfl, rfl⟩))
  exact candidate_of_free (t := { s with control := rest, exchange := some (controlExchange c) }) hx rfl rfl rfl rfl rfl hk

theorem dispatch_eq {r : Record} {rest : List Record} (hq : s.queue n = r :: rest) : s.dispatch n = { s with
    queues := s.queues.set n ({ r with state := .dispatched, attempt := 0, deadline := none } :: rest)
    slots := s.slots.set n { s.slot n with step := none }
    exchange := some (dataExchange n r)
    roundRobin := n } := by
  rw [dispatch_cons hq]
  rfl

/-- The dispatch of a head ends the event as it is: the slot's queue keeps it from being a candidate, and its course stays. -/
theorem finish_dispatch (h : s.claimsSound) (hx : s.exchange = none) {r : Record} {rest : List Record}
    (hq : s.queue n = r :: rest) : s.finish (s.dispatch n) = s.dispatch n := by
  have hdispatch := dispatch_eq hq
  have hslot : (s.dispatch n).slot n = { s.slot n with step := none } := by rw [hdispatch]; simp [State.slot]
  have honly : OnlySlot n s (s.dispatch n) := fun m hm => by
    have hval : n.val ≠ m.val := fun e => hm (Fin.ext e.symm)
    rw [hdispatch]
    simp [State.slot, State.queue, State.att, State.profile, hval]
  have hexchange : (s.dispatch n).exchange = some (dataExchange n r) := by rw [hdispatch]
  have hflight : (s.dispatch n).inFlight n = true := by simp [State.inFlight, hexchange, dataExchange]
  have hclaims : (s.dispatch n).claimsSound := by
    have hsame : (s.dispatch n).claims = s.claims := by rw [hdispatch]
    rw [State.claimsSound, ← keys_card, dispatch_keys hq, keys_card, hsame]
    exact h
  refine finish_quiet s _ hclaims (newCandidate_onlySlot honly (fun m hm => ?_) (fun hc => ?_) (fun hd => ?_))
    (courseChanged_onlySlot honly (by rw [hdispatch]) (by rw [hslot]) (by rw [hslot]; rfl))
  · rw [inFlight_of_free hx, inFlight_elsewhere hexchange hm]
  · simp [State.candidate, State.idleSlot, hflight] at hc
  · rw [hslot] at hd; exact hd

/-- A SLUMBER exchange takes its DRAINING slot to SETTLING, and the end of the event can make a selection pass due (R95, R107). -/
theorem finish_startSlumber (h : s.claimsSound) (hx : s.exchange = none) {c : ControlEntry} (hc : c.command = .slumber)
    (hs : (s.slot c.slot).state = .draining) (rest : List ControlEntry) (hstart : s.startControl c rest = t) :
    Unchanged [.passDue] t (s.finish t) ∧ Unchanged [.control, .exchange, .slots, .useOrder, .notices, .lostCount, .firstLoss] s t ∧
      OnlySlot c.slot s t ∧ t.slot c.slot = (s.slot c.slot).changed .settling ∧
      t.useOrder = s.useOrder.filter (· != c.slot) ∧ t.control = rest.filter (fun x => x.slot != c.slot) ∧
      t.exchange = some (controlExchange c) := by
  generalize hu : ({ s with control := rest, exchange := some (controlExchange c) } : State) = u
  have fu : Unchanged [.control, .exchange] s u := hu ▸ startControl_frame s c rest
  have ht : t = u.changeState c.slot .settling [] := by rw [← hstart, State.startControl, if_pos hc, hu]
  have hcharge : (u.slot c.slot).charge = ((u.slot c.slot).changed .settling).charge := by
    rw [fu.slot c.slot]
    simp [SlotRecord.charge, SlotRecord.changed, hs]
  have fchange := changeState_frame_held u c.slot .settling [] hcharge.le (by decide)
  have hself : t.slot c.slot = (s.slot c.slot).changed .settling := by rw [ht, changeState_slot_self, fu.slot c.slot]
  have honly : OnlySlot c.slot s t := ht ▸ (fu.onlySlot c.slot (by decide) (by decide) (by decide) (by decide)).trans
    (changeState_onlySlot u c.slot .settling [])
  have hexchange : t.exchange = some (controlExchange c) := by
    rw [ht, ← (fchange .exchange (by decide) : u.exchange = _), ← hu]
  rw [← ht] at fchange
  have fall := fu.andThen fchange (c := [.control, .exchange, .slots, .useOrder, .notices, .lostCount, .firstLoss])
    (by decide) (by decide)
  refine ⟨finish_frame_pass (fall.claimsSound h) (fall .committed (by decide) : s.committed = _).le ?_, fall, honly, hself, ?_, ?_,
    hexchange⟩
  · have hstate : (t.slot c.slot).state = .settling := by rw [hself]; rfl
    have hdrain : (t.slot c.slot).idleDraining = false := not_idleDraining_of_state (by rw [hstate]; decide)
    refine newCandidate_onlySlot honly (fun m hm => ?_) (fun hc => ?_) (fun hd => ?_)
    · rw [inFlight_of_free hx, inFlight_elsewhere hexchange hm]
    · rw [not_candidate_of_state (by rw [hstate]; decide) hdrain] at hc
      exact Bool.noConfusion hc
    · rw [hdrain] at hd
      exact Bool.noConfusion hd
  · rw [ht, changeState_useOrder, ← (fu .useOrder (by decide) : s.useOrder = _)]
    rfl
  · rw [ht, changeState_control, ← hu]

/-! ## The selection -/

theorem select_control {c : ControlEntry} {rest : List ControlEntry} (h : s.control = c :: rest) :
    s.select = s.startControl c rest := by
  rw [State.select, h]

theorem select_data (h : s.control = []) {n : Slot} (hn : s.chooseSlot = some n) : s.select = s.dispatch n := by
  rw [State.select, h]
  dsimp only
  rw [hn]

theorem select_nothing (h : s.control = []) (hn : s.chooseSlot = none) : s.select = s := by
  rw [State.select, h]
  dsimp only
  rw [hn]

theorem dataExchange_eq (n : Slot) (r : Record) : dataExchange n r =
    { slot := n, command := if r.op = .read then .read else .write, attempt := 0, phase := .sending,
      frame := commandFrame n (if r.op = .read then .read else .write) r.address r.length
        (if r.op = .read then [] else r.writeData.getD []) } := by
  have hcommand : commandOf r.op = if r.op = .read then .read else .write := by cases r.op <;> rfl
  rw [dataExchange, hcommand]

/-- Settles O45: the selection takes the head control exchange, or the nearest offered head of the highest level; and the pointer's
law is that of `exec_pool`. -/
theorem chainSelectionStartsExchange : Obligations.ChainSelectionStartsExchange := by
  unfold Obligations.ChainSelectionStartsExchange
  refine ⟨fun s hrun hx hst hclaims => ?_, fun c s t h hselection hreset => (exec_pool c h).pointer ⟨hselection, hreset⟩⟩
  have hexec := chainSelection_run hrun hx hst
  refine ⟨fun c rest hcontrol => ⟨fun hc => ?_, fun hc hs => ?_⟩, fun n r rest hcontrol hs hq hr hfirst => ?_,
    fun hcontrol hnone => ?_⟩
  · rw [hexec, select_control hcontrol, finish_startControl hclaims hx hc]
    rfl
  · rw [hexec, select_control hcontrol]
    obtain ⟨ffinish, fstart, honly, hself, horder, hrest, hexchange⟩ := finish_startSlumber hclaims hx hc hs rest rfl
    refine ⟨_, rfl, ?_, ?_, ?_, ?_, ?_, fstart.andThen ffinish (by decide) (by decide)⟩
    · rw [← (ffinish .exchange (by decide) : State.exchange _ = _), hexchange]
      rfl
    · rw [ffinish.slot c.slot, hself]
      rfl
    · rw [← (ffinish .useOrder (by decide) : State.useOrder _ = _), horder]
    · rw [← (ffinish .control (by decide) : State.control _ = _), hrest]
    · exact honly.trans (ffinish.onlySlot c.slot (by decide) (by decide) (by decide) (by decide))
  · have hchoose := chooseSlot_eq hs hq hr hfirst
    rw [hexec, select_data hcontrol hchoose, finish_dispatch hclaims hx hq, dispatch_eq hq, dataExchange_eq]
  · rw [hexec, select_nothing hcontrol (chooseSlot_none hnone), finish_unmoved (Unchanged.refl [] s) hclaims]

end Sys2Proof.Machine
end

section
/-! The phases of an attempt, and the judgement of a reply (R97, R98, R189). -/

set_option Elab.async false

namespace Sys2Proof.Machine

variable {s : State} {n : Slot} {e : Exchange}

/-! ## The phases of an attempt -/

theorem inPhase_of {p : AttemptPhase} (hrun : s.running = true) (hx : s.exchange = some e) (hp : e.phase = p) :
    s.inPhase p = true := by
  simp [State.inPhase, hrun, hx, hp]

theorem toPhase_of (hx : s.exchange = some e) (p : AttemptPhase) (timeout : Option Nat) :
    s.toPhase p timeout = { s with exchange := some { e with phase := p }, responseTimeout := timeout } := by
  rw [State.toPhase, hx]
  rfl

/-- An event of the phase that the attempt is in moves the attempt. -/
theorem quietEvent_toPhase {p : AttemptPhase} (hrun : s.running = true) (hx : s.exchange = some e) (hp : e.phase = p)
    (q : AttemptPhase) (timeout : State → Option Nat) :
    quietEvent (s.inPhase p) s (fun s => s.toPhase q (timeout s)) =
      .next { s with exchange := some { e with phase := q }, responseTimeout := timeout s } := by
  rw [inPhase_of hrun hx hp, quietEvent_due, toPhase_of hx]

/-- Settles O46: each of the three commands is a move by `quietEvent_toPhase`; a reply byte leaves the attempt in its phase. -/
theorem attemptPassesThroughPhases : Obligations.AttemptPassesThroughPhases := by
  intro e s hrun hx
  refine ⟨fun hp => ?_, fun hp => ?_, fun hp => ?_⟩
  · exact quietEvent_toPhase hrun hx hp .awaiting (fun s => some s.chain.responseTimeout)
  · exact quietEvent_toPhase hrun hx hp .receiving (fun _ => none)
  · have hmove : exec .replyByteReceived s = _ :=
      quietEvent_toPhase hrun hx hp .receiving (fun s => some s.chain.responseTimeout)
    have hsame : s.exchange = some { e with phase := .receiving } := by rw [hx, ← hp]
    rw [hmove, ← hsame]

/-! ## The judgement of a reply -/

/-- The checked bytes of a reply of slot `n`: its echo, the status, the length and the data (R98). -/
def replyFields (n : Slot) (status : Byte) (data : List Byte) : List Byte :=
  byteOf n.val :: status :: byteOf data.length :: data

/-- A reply as the chain carries it, its check last (R98, R189). -/
def replyBytes (n : Slot) (status : Byte) (data : List Byte) : List Byte :=
  replyFields n status data ++ [crc8 (replyFields n status data)]

/-- The outcome that the status of a well-formed reply calls for, with the length that fits it (R98). -/
def statusOutcome (command : ChainCommand) (asked : Nat) (status : Byte) (data : List Byte) : AttemptOutcome :=
  if status = 0x00 ∧ data.length = doneLength command asked then .done data
  else if status = 0x01 ∧ data = [] then .refused
  else if status = 0x02 ∧ data = [] then .notReady
  else if status = 0x03 ∧ data = [] then .failed
  else .checkError

theorem byteOf_toNat {v : Nat} (h : v ≤ 32) : (byteOf v).toNat = v :=
  (BitVec.toNat_ofNat v 8).trans (Nat.mod_eq_of_lt (by omega))

/-- A well-formed reply passes the check, so its status decides. -/
theorem judgeReply_replyBytes (n : Slot) (command : ChainCommand) (asked : Nat) (status : Byte) {data : List Byte}
    (h : data.length ≤ 32) : judgeReply n command asked (replyBytes n status data) = statusOutcome command asked status data := by
  have hlen := byteOf_toNat h
  have hdata : (data ++ [crc8 (replyFields n status data)]).dropLast = data := List.dropLast_concat
  have hcheck : (data ++ [crc8 (replyFields n status data)]).getLast? = some (crc8 (replyFields n status data)) :=
    List.getLast?_concat
  have hsize : (data ++ [crc8 (replyFields n status data)]).length = data.length + 1 := List.length_append
  show judgeReply n command asked
    (byteOf n.val :: status :: byteOf data.length :: (data ++ [crc8 (replyFields n status data)])) = _
  rw [judgeReply]
  rw [hdata, hlen, if_pos ⟨h, hsize, hcheck, rfl⟩]
  simp only [statusOutcome, List.length_eq_zero_iff]

/-- Only a well-formed reply has another outcome than CHECK_ERROR. -/
theorem judgeReply_wellFormed {command : ChainCommand} {asked : Nat} {bytes : List Byte}
    (h : judgeReply n command asked bytes ≠ .checkError) :
    ∃ status data, data.length ≤ 32 ∧ bytes = replyBytes n status data := by
  match bytes, h with
  | echo :: status :: len :: rest, h =>
    by_cases hgood : len.toNat ≤ 32 ∧ rest.length = len.toNat + 1 ∧
        rest.getLast? = some (crc8 (echo :: status :: len :: rest.dropLast)) ∧ echo = byteOf n.val
    · obtain ⟨hmax, hsize, hcheck, hecho⟩ := hgood
      have hdata : rest.dropLast.length = len.toNat := by rw [List.length_dropLast, hsize, Nat.add_sub_cancel]
      have hlen : byteOf rest.dropLast.length = len := by rw [hdata]; exact (BitVec.ofNat_toNat 8 len).trans (BitVec.setWidth_eq len)
      have hsplit : rest.dropLast ++ [crc8 (echo :: status :: len :: rest.dropLast)] = rest :=
        List.dropLast_append_getLast? _ hcheck
      refine ⟨status, rest.dropLast, hdata.trans_le hmax, ?_⟩
      rw [replyBytes, replyFields, hlen, ← hecho, List.cons_append, List.cons_append, List.cons_append, hsplit]
    · exact absurd (if_neg hgood) h
  | [], h => exact absurd rfl h
  | [_], h => exact absurd rfl h
  | [_, _], h => exact absurd rfl h

/-- Settles O47: a well-formed reply is judged by its status, and a reply with another outcome than CHECK_ERROR is well formed. -/
theorem replyIsJudged : Obligations.ReplyIsJudged := by
  intro n command asked
  refine ⟨fun status data h => ?_, fun bytes hbytes => ?_⟩
  · have hjudged := judgeReply_replyBytes n command asked status h
    cases command <;> exact hjudged
  · by_contra herror
    obtain ⟨status, data, hmax, hreply⟩ := judgeReply_wellFormed herror
    exact hbytes status data hmax hreply

end Sys2Proof.Machine
end

section
/-! Retries: a failed attempt below the limits is sent again (R99 to R101). -/

set_option Elab.async false

namespace Sys2Proof.Machine

variable {s : State} {n : Slot} {e : Exchange} {o : AttemptOutcome} {r : Record} {rest : List Record}

/-! ## The retry decision -/

theorem not_reachesThreshold (hb : s.belowThreshold e.slot o) :
    reachesThreshold e.command o (s.slot e.slot).failures s.chain.faultThreshold = false := by
  refine Bool.eq_false_iff.mpr (fun h => ?_)
  simp only [reachesThreshold, Bool.and_eq_true, bne_iff_ne, ne_eq, decide_eq_true_eq] at h
  obtain ⟨⟨hcommand, hfail⟩, hle⟩ := h
  rw [failuresAfter_eq hcommand] at hle
  have hfailed : o = .timeout ∨ o = .checkError := by cases o <;> simp [AttemptOutcome.isFailure] at hfail ⊢
  exact absurd hle (Nat.not_le.mpr (hb hfailed))

theorem retryCalled_of {command : ChainCommand} (hc : command ≠ .wake ∧ command ≠ .identify)
    (ho : o = .timeout ∨ o = .checkError ∨ o = .notReady) : retryCalled command o = true := by
  obtain ⟨hwake, hidentify⟩ := hc
  rcases ho with rfl | rfl | rfl <;> simp [retryCalled, hwake, hidentify]

/-- Below both limits, an outcome that calls for a retry is followed by the next attempt (R100). -/
theorem attemptEnd_retry (hb : s.belowThreshold e.slot o) (hcall : retryCalled e.command o = true)
    (hlimit : e.attempt < s.chain.retryLimit) : s.attemptEnd e o = (s.counted e o).retry e := by
  rw [attemptEnd_eq, not_reachesThreshold hb, if_neg Bool.false_ne_true, if_pos ⟨hcall, hlimit⟩]

/-! ## What a retry changes -/

theorem countRetry_dispatched (hq : s.queue n = r :: rest) (hr : r.state = .dispatched) :
    s.countRetry n = s.setQueue n ({ r with attempt := r.attempt + 1 } :: rest) := by
  rw [State.countRetry, hq]
  exact if_pos hr

/-- Counting a retry replaces the queue by one with the same owners and tags, or does nothing. -/
theorem countRetry_cases (s : State) (n : Slot) : s.countRetry n = s ∨
    ∃ q, s.countRetry n = s.setQueue n q ∧ q.map Record.key = (s.queue n).map Record.key := by
  cases hq : s.queue n with
  | nil => exact .inl (by rw [State.countRetry, hq])
  | cons r rest =>
    by_cases hr : r.state = .dispatched
    · exact .inr ⟨_, countRetry_dispatched hq hr, rfl⟩
    · refine .inl ?_
      rw [State.countRetry, hq]
      exact if_neg hr

theorem countRetry_keys (s : State) (n : Slot) : (s.countRetry n).keys = s.keys := by
  obtain hsame | ⟨q, hset, hkeys⟩ := countRetry_cases s n
  · rw [hsame]
  · rw [hset, setQueue_keys_same hkeys]

theorem countRetry_onlySlot (s : State) (n : Slot) : OnlySlot n s (s.countRetry n) := by
  obtain hsame | ⟨q, hset, -⟩ := countRetry_cases s n
  · rw [hsame]; exact OnlySlot.refl n s
  · rw [hset]; exact setQueue_onlySlot s n q

theorem retry_frame (s : State) (e : Exchange) : Unchanged [.exchange, .responseTimeout, .queues] s (s.retry e) := by
  have f : Unchanged [.exchange, .responseTimeout, .queues] s (s.resent e) := (resent_frame s e).mono (by decide)
  rw [retry_eq]
  exact Unchanged.ite (fun _ => f) (fun _ => f.trans ((countRetry_frame _ _).mono (by decide)))

theorem retry_keys (s : State) (e : Exchange) : (s.retry e).keys = s.keys := by
  rw [retry_eq]
  split
  · rfl
  · exact countRetry_keys (s.resent e) e.slot

theorem retry_onlySlot (s : State) (e : Exchange) : OnlySlot e.slot s (s.retry e) := by
  have h : OnlySlot e.slot s (s.resent e) := (resent_frame s e).onlySlot _ (by decide) (by decide) (by decide) (by decide)
  rw [retry_eq]
  split
  · exact h
  · exact h.trans (countRetry_onlySlot _ _)

theorem retry_exchange (s : State) (e : Exchange) :
    (s.retry e).exchange = some { e with attempt := e.attempt + 1, phase := .sending } := by
  rw [retry_eq]
  split
  · rfl
  · exact ((countRetry_frame (s.resent e) e.slot) .exchange (by decide)).symm

/-- A retry ends its event as it is: the exchange in flight keeps its slot from being a candidate, and no course changes. -/
theorem finish_retry (hx : s.exchange = some e) (hcl : s.claimsSound) :
    s.finish ((s.counted e o).retry e) = (s.counted e o).retry e := by
  have fcount : Unchanged [.slots] s (s.counted e o) := setSlot_frame s e.slot _
  have fretry := retry_frame (s.counted e o) e
  have hexchange := retry_exchange (s.counted e o) e
  have honly : OnlySlot e.slot s ((s.counted e o).retry e) := (setSlot_onlySlot s e.slot _).trans (retry_onlySlot _ e)
  have hslot : ((s.counted e o).retry e).slot e.slot =
      { s.slot e.slot with failures := failuresAfter e.command o (s.slot e.slot).failures } :=
    (fretry.slot e.slot).trans (setSlot_slot_self s e.slot _)
  have hflight : ((s.counted e o).retry e).inFlight e.slot = true := by simp [State.inFlight, hexchange]
  have hclaims : ((s.counted e o).retry e).claimsSound := by
    have hsame : s.claims = ((s.counted e o).retry e).claims :=
      (fcount .claims (by decide) : s.claims = _).trans (fretry .claims (by decide))
    rw [State.claimsSound, ← hsame, ← keys_card, retry_keys, fcount.keys, keys_card]
    exact hcl
  have hcommitted : s.committed = ((s.counted e o).retry e).committed :=
    (fcount .committed (by decide) : s.committed = _).trans (fretry .committed (by decide))
  refine finish_quiet s _ hclaims (newCandidate_onlySlot honly (fun m hm => ?_) (fun hc => ?_) (fun hd => ?_))
    (courseChanged_onlySlot honly hcommitted (by rw [hslot]) (by rw [hslot]; rfl))
  · rw [inFlight_elsewhere hx hm, inFlight_elsewhere hexchange hm]
  · simp [State.candidate, State.idleSlot, hflight] at hc
  · rw [hslot] at hd; exact hd

/-- The end of an attempt that is retried is the next attempt of the counted state. -/
theorem attemptEnds_retry {c : Instr} (hends : AttemptEnds c e o s) (hcl : s.claimsSound) (hb : s.belowThreshold e.slot o)
    (ho : o = .timeout ∨ o = .checkError ∨ o = .notReady) (hlimit : e.attempt < s.chain.retryLimit)
    (hc : e.command ≠ .wake ∧ e.command ≠ .identify) : exec c s = .next ((s.counted e o).retry e) := by
  rw [attemptEnds_run hends, attemptEnd_retry hb (retryCalled_of hc ho) hlimit, finish_retry hends.exchange hcl]

theorem counted_eq (h : e.command ≠ .identify) : s.counted e o =
    s.setSlot e.slot { s.slot e.slot with failures := countAfter o (s.slot e.slot).failures } := by
  rw [State.counted, failuresAfter_eq h]

/-- Settles O48: the event is a retry by `attemptEnds_retry`, and a data exchange counts it in the record at the queue's head. -/
theorem failedAttemptIsRetried : Obligations.FailedAttemptIsRetried := by
  intro c e o s hends hcl hb ho hlimit
  refine ⟨fun hc => ?_, fun r rest hc hq hr => ?_⟩
  · have hretried : e.command ≠ .wake ∧ e.command ≠ .identify := by rw [hc]; decide
    rw [attemptEnds_retry hends hcl hb ho hlimit hretried, retry_eq, if_pos hc, counted_eq hretried.2]
    rfl
  · have hretried : e.command ≠ .wake ∧ e.command ≠ .identify := by rcases hc with hc | hc <;> rw [hc] <;> decide
    have hdata : e.command ≠ .slumber := by rcases hc with hc | hc <;> rw [hc] <;> decide
    have hqueue : ((s.counted e o).resent e).queue e.slot = r :: rest := hq
    rw [attemptEnds_retry hends hcl hb ho hlimit hretried, retry_eq, if_neg hdata, countRetry_dispatched hqueue hr,
      counted_eq hretried.2]
    rfl

end Sys2Proof.Machine
end

section
/-! WRITE_ENTRY_CHAIN (R114, R149). -/

set_option Elab.async false

namespace Sys2Proof.Machine

variable {s : State}

theorem writeChainOp_badIndex (c : Taken) {i : Nat} (bytes : List Byte) (h : i ≠ 0) :
    writeChainOp c (i, bytes) s = s.respond c .badIndex [] := if_pos h

theorem writeChainOp_badValue (c : Taken) {bytes : List Byte} (h : readChainSettings bytes = none) :
    writeChainOp c (0, bytes) s = s.respond c .badValue [] := by
  simp [writeChainOp, h]

theorem writeChainOp_stored (c : Taken) {bytes : List Byte} {v : ChainSettings} (h : readChainSettings bytes = some v) :
    writeChainOp c (0, bytes) s = ({ s with chain := v } : State).respond c .ok [] := by
  simp [writeChainOp, h]

/-- Settles O21: the three outcomes of `writeChainOp`; the last touches Chain Settings and the answer alone. -/
theorem writeChainSettingsChecksAndStores : Obligations.WriteChainSettingsChecksAndStores := by
  intro i bytes frame rest c s hdue hkind hform hman
  have hexec : exec .writeEntryChain s = .next (writeChainOp c (i, bytes) { s with ingress := rest }) :=
    take_managed s hdue hkind _ hform hman writeChainOp
  rw [hexec]
  refine ⟨fun hi => ?_, fun hi hv => ?_, fun hi v hv => ?_⟩
  · rw [writeChainOp_badIndex c bytes hi, respond_answered]
  · rw [hi, writeChainOp_badValue c hv, respond_answered]
  · rw [hi, writeChainOp_stored c hv]
    rfl

end Sys2Proof.Machine
end

section
/-! Attention actions: what each starts with, what an activation and a deactivation do by phase, and how their event ends (R119 to
R125). -/

namespace Sys2Proof.Machine

variable {s t : State} {n : Slot}

/-! ## The end of an event about one slot's attention -/

/-- An event that acts on the attention of one slot ends as it stands, where it ends no fetch of an idle slot (R44) and no claim can
be served (R79). -/
theorem finish_attended {a : List Field} (f : Unchanged a s t) (ho : OnlySlot n s t) (hcl : t.claimsSound)
    (hph : (s.att n).phase = .fetching → (t.att n).phase = .fetching)
    (ha : ∀ g ∈ [Field.slots, .committed, .queues, .exchange], g ∉ a := by decide) : s.finish t = t := by
  have hslot : t.slot n = s.slot n := f.slot n (ha _ (by decide))
  have hqueue : t.queue n = s.queue n := f.queue n (ha _ (by decide))
  have hflight : ∀ m, t.inFlight m = s.inFlight m := fun m => f.inFlight m (ha _ (by decide))
  refine finish_quiet s t hcl (newCandidate_onlySlot ho (fun m _ => hflight m) (fun hc => ?_) (fun hd => hslot ▸ hd))
    (courseChanged_onlySlot ho (f .committed (ha _ (by decide))) (by rw [hslot]) (by rw [hslot]))
  simp only [State.candidate, State.idleSlot, hslot, hqueue, hflight, Bool.and_eq_true, bne_iff_ne] at hc ⊢
  obtain ⟨⟨hidle, hfetch⟩, hpin⟩ := hc
  exact ⟨⟨hidle, fun h => hfetch (hph h)⟩, hpin⟩

theorem OnlySlot.att (h : OnlySlot n s t) {m : Slot} (hm : m ≠ n) : t.att m = s.att m := (h m hm).2.1

theorem setAtt_setAtt (s : State) (n : Slot) (a b : AttentionRecord) : (s.setAtt n a).setAtt n b = s.setAtt n b := by
  simp [State.setAtt]

/-! ## The first step of an action (R121, R123, R125) -/

theorem startAction_notice
    (h : (s.profile n).action = .notify ∨ (s.profile n).action = .wakeNotify ∧ (s.slot n).state = .awake) :
    s.startAction n = s.endAction n .ok [] true := by
  rcases h with h | ⟨h, hs⟩
  · simp [State.startAction, h]
  · simp [State.startAction, h, hs]

/-- Away from AWAKE a WAKE_NOTIFY action waits, and gives a slot in SLUMBER reason ATTENTION (R123). -/
theorem startAction_waits (h : (s.profile n).action = .wakeNotify) (hs : (s.slot n).state ≠ .awake) :
    s.startAction n = if (s.slot n).state = .slumber then
        (s.setAtt n { s.att n with phase := .waitingAwake }).gainReason n .attention (s.profile n).attentionLevel
      else s.setAtt n { s.att n with phase := .waitingAwake } := by
  cases hst : (s.slot n).state with
  | awake => exact absurd hst hs
  | off | slumber | powering | waking | draining | settling | faulted => simp [State.startAction, h, hst]

theorem startAction_fetches (h : (s.profile n).action = .fetch) (hfree : s.liveTotal < 96) :
    s.startAction n = s.createFetch n := by
  simp [State.startAction, h, hfree]

theorem startAction_claims (h : (s.profile n).action = .fetch) (hfull : ¬ s.liveTotal < 96) :
    s.startAction n = { s.setAtt n { s.att n with phase := .waitingRecord } with claims := s.claims ++ [n] } := by
  simp [State.startAction, h, hfull]

theorem createFetch_att_self (s : State) (n : Slot) : (s.createFetch n).att n = { s.att n with phase := .fetching } := by
  have hset := setAtt_att_self s n { s.att n with phase := .fetching }
  refine (joinQueue_att (s := s.setAtt n { s.att n with phase := .fetching }) ?_ _).trans hset
  rw [hset]
  exact AttentionPhase.noConfusion

theorem createFetch_onlySlot (s : State) (n : Slot) : OnlySlot n s (s.createFetch n) :=
  (setAtt_onlySlot s n _).trans (joinQueue_onlySlot _ n _)

theorem setClaims_onlySlot (s : State) (n : Slot) (l : List Slot) : OnlySlot n s { s with claims := l } :=
  (setClaims_frame s l).onlySlot n (by decide) (by decide) (by decide) (by decide)

theorem gainReason_onlySlot (s : State) (n : Slot) (why : WakeReason) (l : Level) : OnlySlot n s (s.gainReason n why l) :=
  (gainReason_frame s n why l).onlySlot n (by decide) (by decide) (by decide) (by decide)

theorem withdrawReason_onlySlot (s : State) (n : Slot) (why : WakeReason) : OnlySlot n s (s.withdrawReason n why) :=
  (withdrawReason_frame s n why).onlySlot n (by decide) (by decide) (by decide) (by decide)

theorem setAtt_claimsSound (h : s.claimsSound) (n : Slot) (a : AttentionRecord) : (s.setAtt n a).claimsSound :=
  (setAtt_frame s n a).claimsSound h

/-- An action that starts acts on no other slot, and leaves a claim waiting only where no record is free (R79). -/
theorem startAction_kept (h : s.claimsSound) (n : Slot) : OnlySlot n s (s.startAction n) ∧ (s.startAction n).claimsSound := by
  have hended : OnlySlot n s (s.endAction n .ok [] true) ∧ (s.endAction n .ok [] true).claimsSound :=
    ⟨endAction_onlySlot s n _ _ _, (endAction_frame s n _ _ _).claimsSound h⟩
  cases ha : (s.profile n).action with
  | ignore =>
    rw [State.startAction, ha]
    exact ⟨OnlySlot.refl n s, h⟩
  | notify => rwa [startAction_notice (Or.inl ha)]
  | wakeNotify =>
    have hset := setAtt_onlySlot s n { s.att n with phase := .waitingAwake }
    have hsound := setAtt_claimsSound h n { s.att n with phase := .waitingAwake }
    by_cases hawake : (s.slot n).state = .awake
    · rwa [startAction_notice (Or.inr ⟨ha, hawake⟩)]
    · rw [startAction_waits ha hawake]
      split
      · exact ⟨hset.trans (gainReason_onlySlot _ n _ _), (gainReason_frame _ n _ _).claimsSound hsound⟩
      · exact ⟨hset, hsound⟩
  | fetch =>
    by_cases hfree : s.liveTotal < 96
    · have hnone : s.claims = [] := h.resolve_right (not_le.mpr hfree)
      rw [startAction_fetches ha hfree]
      exact ⟨createFetch_onlySlot s n, Or.inl ((createFetch_claims s n).trans hnone)⟩
    · rw [startAction_claims ha hfree]
      refine ⟨(setAtt_onlySlot s n _).trans (setClaims_onlySlot _ n _), Or.inr ?_⟩
      rw [((setAtt_frame s n _).andThen (setClaims_frame _ _) (c := [.attention, .claims]) (by decide) (by decide)).liveTotal]
      exact not_lt.mp hfree

/-! ## The event that starts an action -/

/-- The event that gives a slot's attention the record `a` and starts the action in force. -/
def State.actionEvent (s : State) (n : Slot) (a : AttentionRecord) : State := s.finish ((s.setAtt n a).startAction n)

theorem actionEvent_onlySlot (h : s.claimsSound) (a : AttentionRecord) : OnlySlot n s (s.actionEvent n a) := by
  obtain ⟨honly, hsound⟩ := startAction_kept (setAtt_claimsSound h n a) n
  exact ((setAtt_onlySlot s n a).trans honly).trans
    ((finish_sound s _ hsound).onlySlot n (by decide) (by decide) (by decide) (by decide))

/-- What an event of a line or of a holdoff can change, where it creates no fetch. -/
abbrev attentionFields : List Field :=
  [.atnLines, .attention, .claims, .wake, .joinCounter, .evaluationDue, .notices, .lostCount, .firstLoss]

/-- An event whose action creates no fetch ends as the action's first step leaves it. -/
theorem actionEvent_eq (h : s.claimsSound) (hph : (s.att n).phase ≠ .fetching) {a : AttentionRecord}
    (f : Unchanged attentionFields s ((s.setAtt n a).startAction n)) : s.actionEvent n a = (s.setAtt n a).startAction n := by
  obtain ⟨honly, hsound⟩ := startAction_kept (setAtt_claimsSound h n a) n
  exact finish_attended f ((setAtt_onlySlot s n a).trans honly) hsound (fun hf => absurd hf hph)

/-- The action ends in its notice within the event (R121, R122). -/
theorem actionEvent_notice (h : s.claimsSound) (hph : (s.att n).phase ≠ .fetching) (a : AttentionRecord)
    (ha : (s.profile n).action = .notify ∨ (s.profile n).action = .wakeNotify ∧ (s.slot n).state = .awake) :
    AttentionEnded (s.profile n) a ((s.actionEvent n a).att n) ∧
    NoticeRaised { kind := .attention, stamp := s.timeBase, slot := some n, requesterTag := none, unit := none,
                   cause := some (.status .ok), count := a.repeatCount, data := [] } s (s.actionEvent n a) ∧
    Unchanged [.attention, .notices, .lostCount, .firstLoss] s (s.actionEvent n a) := by
  have hstart : (s.setAtt n a).startAction n = (s.setAtt n a).endAction n .ok [] true := startAction_notice ha
  have fe := endAction_frame (s.setAtt n a) n .ok [] true
  have hended := endAction_ended (s.setAtt n a) n .ok []
  have hraised := endAction_raised (s.setAtt n a) n .ok [] true
  rw [setAtt_att_self] at hended hraised
  have hframe := (setAtt_frame s n a).andThen fe (c := [.attention, .notices, .lostCount, .firstLoss]) (by decide) (by decide)
  rw [← hstart] at hended hraised hframe
  rw [actionEvent_eq h hph (hframe.mono (by decide))]
  exact ⟨hended, hraised, hframe⟩

/-- WAKE_NOTIFY on a slot that is not AWAKE waits for it, and a slot in SLUMBER gains reason ATTENTION (R123). -/
theorem actionEvent_waits (h : s.claimsSound) (hph : (s.att n).phase ≠ .fetching) (a : AttentionRecord)
    (ha : (s.profile n).action = .wakeNotify) (hawake : (s.slot n).state ≠ .awake) :
    (s.actionEvent n a).att n = { a with phase := .waitingAwake } ∧
    ((s.slot n).state = .slumber → ReasonGained n .attention (s.profile n).attentionLevel s (s.actionEvent n a)) ∧
    Unchanged [.attention, .wake, .joinCounter, .evaluationDue] s (s.actionEvent n a) := by
  have hstart := startAction_waits (s := s.setAtt n a) ha hawake
  rw [setAtt_setAtt, setAtt_att_self, setAtt_slot, setAtt_profile] at hstart
  generalize hw : s.setAtt n { a with phase := .waitingAwake } = w at hstart
  have fw : Unchanged [.attention] s w := hw ▸ setAtt_frame s n _
  have fstart : Unchanged [.wake, .joinCounter, .evaluationDue] w ((s.setAtt n a).startAction n) :=
    hstart ▸ Unchanged.ite (fun _ => gainReason_frame w n _ _) (fun _ => Unchanged.refl _ w)
  have hframe := fw.andThen fstart (c := [.attention, .wake, .joinCounter, .evaluationDue]) (by decide) (by decide)
  rw [actionEvent_eq h hph (hframe.mono (by decide))]
  refine ⟨?_, fun hs => ?_, hframe⟩
  · rw [fstart.att n, ← hw, setAtt_att_self]
  · rw [hstart, if_pos hs]
    exact (gainReason_gained w n _ _).after fw

/-- With a record free the fetch is created and joins the queue of the slot (R125). -/
theorem actionEvent_fetches (h : s.claimsSound) (a : AttentionRecord) (ha : (s.profile n).action = .fetch)
    (hfree : s.liveTotal < 96) :
    (s.actionEvent n a).att n = { a with phase := .fetching } ∧
    (s.actionEvent n a).queue n = s.queue n ++ [s.fetchRecord n] := by
  have hstart : (s.setAtt n a).startAction n = (s.setAtt n a).createFetch n := startAction_fetches ha hfree
  have hsound := (startAction_kept (setAtt_claimsSound h n a) n).2
  have fend := finish_sound s _ hsound
  rw [hstart] at fend
  rw [State.actionEvent, hstart, fend.att n, fend.queue n, createFetch_att_self, createFetch_queue, setAtt_att_self]
  exact ⟨rfl, rfl⟩

/-- With no record free the action claims one (R79, R125). -/
theorem actionEvent_claims (h : s.claimsSound) (hph : (s.att n).phase ≠ .fetching) (a : AttentionRecord)
    (ha : (s.profile n).action = .fetch) (hfull : ¬ s.liveTotal < 96) :
    s.actionEvent n a = { s.setAtt n { a with phase := .waitingRecord } with claims := s.claims ++ [n] } := by
  have hstart := startAction_claims (s := s.setAtt n a) ha hfull
  rw [setAtt_setAtt, setAtt_att_self] at hstart
  refine (actionEvent_eq h hph ?_).trans hstart
  rw [hstart]
  exact (setAtt_frame s n _).andThen (setClaims_frame _ _) (by decide) (by decide)

/-! ## An activation by the phase (R119, R120) -/

/-- While an action is in progress an activation counts as a repeat. -/
def AttentionRecord.repeated (a : AttentionRecord) : AttentionRecord :=
  { a with pending := true, repeatCount := min 255 (a.repeatCount + 1) }

theorem activation_ignored (hph : (s.att n).phase = .idle) (ha : (s.profile n).action = .ignore) : s.activation n = s := by
  simp [State.activation, hph, ha]

theorem activation_starts (hph : (s.att n).phase = .idle) (ha : (s.profile n).action ≠ .ignore) :
    s.activation n = (s.setAtt n { s.att n with pending := true }).startAction n := by
  simp [State.activation, hph, ha]

theorem activation_repeats
    (hph : (s.att n).phase = .waitingRecord ∨ (s.att n).phase = .fetching ∨ (s.att n).phase = .waitingAwake) :
    s.activation n = s.setAtt n (s.att n).repeated := by
  rcases hph with hph | hph | hph <;> rw [State.activation, hph] <;> rfl

/-! ## A deactivation by the phase (R120, R124) -/

theorem deactivation_running (hph : (s.att n).phase = .idle ∨ (s.att n).phase = .fetching) :
    s.deactivation n = s.setAtt n { s.att n with pending := false } := by
  rcases hph with hph | hph <;> rw [State.deactivation, hph] <;> rfl

theorem deactivation_holdoff (hph : (s.att n).phase = .holdoff) : s.deactivation n = s.setAtt n (s.att n).cleared := by
  rw [State.deactivation, hph]
  rfl

theorem deactivation_waitingRecord (hph : (s.att n).phase = .waitingRecord) :
    s.deactivation n = ({ s with claims := s.claims.filter (· != n) } : State).setAtt n (s.att n).cleared := by
  rw [State.deactivation, hph]
  rfl

theorem deactivation_waitingAwake (hph : (s.att n).phase = .waitingAwake) :
    s.deactivation n = (s.withdrawReason n .attention).setAtt n (s.att n).cleared := by
  rw [State.deactivation, hph]
  exact congrArg (fun a : AttentionRecord => (s.withdrawReason n .attention).setAtt n a.cleared)
    ((withdrawReason_frame s n .attention).att n)

theorem deactivation_frame (s : State) (n : Slot) :
    Unchanged [.attention, .claims, .wake, .evaluationDue] s (s.deactivation n) := by
  unfold State.deactivation
  split
  · exact (setAtt_frame s n _).mono (by decide)
  · exact (setAtt_frame s n _).mono (by decide)
  · exact (setClaims_frame s _).andThen (setAtt_frame _ n _) (by decide) (by decide)
  · exact (withdrawReason_frame s n _).andThen (setAtt_frame _ n _) (by decide) (by decide)
  · exact (setAtt_frame s n _).mono (by decide)

theorem deactivation_onlySlot (s : State) (n : Slot) : OnlySlot n s (s.deactivation n) := by
  unfold State.deactivation
  split
  · exact setAtt_onlySlot s n _
  · exact setAtt_onlySlot s n _
  · exact (setClaims_onlySlot s n _).trans (setAtt_onlySlot _ n _)
  · exact (withdrawReason_onlySlot s n _).trans (setAtt_onlySlot _ n _)
  · exact setAtt_onlySlot s n _

theorem deactivation_claims (s : State) (n : Slot) :
    (s.deactivation n).claims = s.claims ∨ (s.deactivation n).claims = s.claims.filter (· != n) := by
  unfold State.deactivation
  split
  · exact Or.inl rfl
  · exact Or.inl rfl
  · exact Or.inr rfl
  · exact Or.inl ((withdrawReason_frame s n _) .claims (by decide) : s.claims = _).symm
  · exact Or.inl rfl

theorem deactivation_claimsSound (h : s.claimsSound) (n : Slot) : (s.deactivation n).claimsSound :=
  claimsSound_of_sub h (deactivation_claims s n) (deactivation_frame s n).liveTotal

/-- An entry that stays in the wake list has lost the withdrawn reason (R37). -/
theorem withdrawReason_attention {e : WakeEntry} (h : (s.withdrawReason n .attention).wakeEntry n = some e) :
    e.reasons.attention = false := by
  have hmem := List.mem_of_find?_eq_some h
  have hslot : e.slot = n := wakeEntry_slot _ n h
  unfold State.withdrawReason at h hmem
  split at hmem
  · rename_i hnone
    rw [hnone] at h
    exact absurd (hnone.symm.trans h) (by simp)
  · split at hmem
    · rw [removeEntry_wake] at hmem
      exact absurd hslot (by simpa using (List.mem_filter.mp hmem).2)
    · obtain ⟨x, -, hx⟩ := List.mem_map.mp hmem
      split at hx
      · rw [← hx]
        rfl
      · rename_i hne
        exact absurd (hx ▸ hslot) hne

end Sys2Proof.Machine
end

section
/-! ATN_CHANGE and ATTENTION_HOLDOFF_EXPIRY: the lines that are not sensed, deactivations, activations, and the end of a holdoff
(R118 to R125, R129, R131). -/

namespace Sys2Proof.Machine

variable {s t : State} {n : Slot}

/-! ## A change of a line (R118, R131) -/

/-- The hub with the level of one ATN pin moved. -/
def State.pinMoved (s : State) (n : Slot) (active : Bool) : State := { s with atnLines := s.atnLines.set n active }

/-- The attention record of `n` once a new level of its line, and the sense mode with it, have been read. -/
def State.lineRead (s : State) (n : Slot) (active : Bool) : AttentionRecord :=
  { s.att n with lastLevel := some active, senseRead := some (s.profile n).sense }

theorem pinMoved_frame (s : State) (n : Slot) (active : Bool) : Unchanged [.atnLines] s (s.pinMoved n active) :=
  setAtnLines_frame s _

theorem pinMoved_same {active : Bool} (h : s.atnLines[n] = active) : s.pinMoved n active = s := by
  have hset : s.atnLines.set n active = s.atnLines := by
    rw [← h]
    exact Vector.set_getElem_self n.isLt
  rw [State.pinMoved, hset]

theorem atnChange_unsensed (h : s.senses n = false) (active : Bool) :
    exec (.atnChange n active) s = .next (s.pinMoved n active) := by
  by_cases hl : s.atnLines[n] = active
  · rw [pinMoved_same hl]
    simp only [exec, execAtnChange, if_pos hl]
  · simp only [exec, execAtnChange, if_neg hl, h, Bool.false_eq_true, if_false]
    rfl

theorem atnChange_sensed {active : Bool} (h : s.senses n = true) (hl : s.atnLines[n] = !active) :
    exec (.atnChange n active) s = .next ((s.pinMoved n active).finish ((s.pinMoved n active).lineChange n active)) := by
  have hne : s.atnLines[n] ≠ active := by
    rw [hl]
    exact Bool.not_ne_self active
  simp only [exec, execAtnChange, if_neg hne, h, if_true]
  rfl

theorem lineChange_active (s : State) (n : Slot) : s.lineChange n true = (s.setAtt n (s.lineRead n true)).activation n := rfl

theorem lineChange_edge (h : (s.profile n).sense = .edge) : s.lineChange n false = s.setAtt n (s.lineRead n false) := by
  simp only [State.lineChange, h, updateAtt_eq, State.lineRead]

theorem lineChange_level (h : (s.profile n).sense = .level) :
    s.lineChange n false = (s.setAtt n (s.lineRead n false)).deactivation n := by
  simp only [State.lineChange, h, updateAtt_eq, State.lineRead]

/-- Settles O7: a line whose changes are not taken fails one of the three conditions of `State.senses`. -/
theorem unsensedLineIsNotTaken : Obligations.UnsensedLineIsNotTaken := by
  unfold Obligations.UnsensedLineIsNotTaken
  intro n active s h
  refine atnChange_unsensed ?_ active
  rcases h with h | h | h <;> simp [State.senses, h]

/-! ## Deactivations -/

theorem deactivation_fetching (h : (s.att n).phase = .fetching) : ((s.deactivation n).att n).phase = .fetching := by
  rw [deactivation_running (Or.inr h), setAtt_att_self]
  exact h

/-- The event of a deactivation acts on the slot's attention alone, and ends as the Attention Unit leaves it. -/
theorem lineChange_released (h : s.claimsSound) (n : Slot) :
    Unchanged [.attention, .claims, .wake, .evaluationDue] s (s.lineChange n false) ∧ OnlySlot n s (s.lineChange n false) ∧
      s.finish (s.lineChange n false) = s.lineChange n false := by
  have fa := setAtt_frame s n (s.lineRead n false)
  have hsound := setAtt_claimsSound h n (s.lineRead n false)
  have honly := setAtt_onlySlot s n (s.lineRead n false)
  have hphase : ((s.setAtt n (s.lineRead n false)).att n).phase = (s.att n).phase := by
    rw [setAtt_att_self]
    rfl
  cases hsense : (s.profile n).sense with
  | edge =>
    rw [lineChange_edge hsense]
    exact ⟨fa.mono (by decide), honly, finish_attended fa honly hsound (fun hf => hphase.trans hf)⟩
  | level =>
    rw [lineChange_level hsense]
    have fd := fa.andThen (deactivation_frame (s.setAtt n (s.lineRead n false)) n)
      (c := [.attention, .claims, .wake, .evaluationDue]) (by decide) (by decide)
    have hd := honly.trans (deactivation_onlySlot _ n)
    exact ⟨fd, hd, finish_attended fd hd (deactivation_claimsSound hsound n)
      (fun hf => deactivation_fetching (hphase.trans hf))⟩

/-- Settles O8: the event ends as `State.lineChange` leaves it, and in LEVEL mode the phase says what the deactivation does. -/
theorem deactivationFollowsSenseMode : Obligations.DeactivationFollowsSenseMode := by
  unfold Obligations.DeactivationFollowsSenseMode
  intro n s hsenses hline hclaims a
  have fpin := pinMoved_frame s n false
  obtain ⟨fline, honly, hend⟩ := lineChange_released (fpin.claimsSound hclaims) n
  have hexec := atnChange_sensed (active := false) hsenses hline
  rw [hend] at hexec
  have hedge : (s.profile n).sense = .edge → (s.pinMoved n false).lineChange n false = (s.pinMoved n false).setAtt n a :=
    lineChange_edge (s := s.pinMoved n false)
  have hlevel : (s.profile n).sense = .level →
      (s.pinMoved n false).lineChange n false = ((s.pinMoved n false).setAtt n a).deactivation n :=
    lineChange_level (s := s.pinMoved n false)
  have hread : ((s.pinMoved n false).setAtt n a).att n = a := setAtt_att_self _ n a
  have hphase : (((s.pinMoved n false).setAtt n a).att n).phase = (s.att n).phase := by rw [hread]
  refine ⟨_, hexec, (fline .atnLines (by decide) : State.atnLines _ = _).symm,
    fpin.andThen fline (by decide) (by decide), honly, ?_⟩
  split
  next hsense =>
    rw [hedge hsense]
    exact ⟨hread, rfl, rfl⟩
  next hsense hph =>
    rw [hlevel hsense, deactivation_running (Or.inl (hphase.trans hph)), setAtt_att_self, hread]
    exact ⟨rfl, rfl, rfl⟩
  next hsense hph =>
    rw [hlevel hsense, deactivation_running (Or.inr (hphase.trans hph)), setAtt_att_self, hread]
    exact ⟨rfl, rfl, rfl⟩
  next hsense hph =>
    rw [hlevel hsense, deactivation_holdoff (hphase.trans hph), setAtt_att_self, hread]
    exact ⟨rfl, rfl, rfl⟩
  next hsense hph =>
    rw [hlevel hsense, deactivation_waitingRecord (hphase.trans hph), setAtt_att_self, hread]
    exact ⟨rfl, fun hmem => absurd (List.mem_filter.mp hmem).2 (by simp), rfl⟩
  next hsense hph =>
    have fw := withdrawReason_frame ((s.pinMoved n false).setAtt n a) n .attention
    rw [hlevel hsense, deactivation_waitingAwake (hphase.trans hph), setAtt_att_self, hread]
    exact ⟨rfl, (fw .claims (by decide) : State.claims _ = _).symm, fun _ e he => withdrawReason_attention he⟩

/-! ## Activations -/

/-- The event of an activation that starts an action (R119, R121). -/
theorem lineChange_starts (hph : (s.att n).phase = .idle) (ha : (s.profile n).action ≠ .ignore) :
    s.finish (s.lineChange n true) = s.actionEvent n { s.lineRead n true with pending := true } := by
  have hphase : ((s.setAtt n (s.lineRead n true)).att n).phase = .idle := by
    rw [setAtt_att_self]
    exact hph
  rw [lineChange_active, activation_starts hphase ha, setAtt_setAtt, setAtt_att_self, State.actionEvent]

/-- The event of an activation in IDLE under IGNORE (R121). -/
theorem lineChange_ignored (h : s.claimsSound) (hph : (s.att n).phase = .idle) (ha : (s.profile n).action = .ignore) :
    s.finish (s.lineChange n true) = s.setAtt n (s.lineRead n true) := by
  have hread := setAtt_att_self s n (s.lineRead n true)
  rw [lineChange_active, activation_ignored ((congrArg AttentionRecord.phase hread).trans hph) ha]
  exact finish_attended (setAtt_frame s n _) (setAtt_onlySlot s n _) (setAtt_claimsSound h n _)
    (fun hf => absurd (hph.symm.trans hf) AttentionPhase.noConfusion)

/-- The event of an activation while an action is in progress (R119, R120). -/
theorem lineChange_repeats (h : s.claimsSound)
    (hph : (s.att n).phase = .waitingRecord ∨ (s.att n).phase = .fetching ∨ (s.att n).phase = .waitingAwake) :
    s.finish (s.lineChange n true) = s.setAtt n (s.lineRead n true).repeated := by
  have hread := setAtt_att_self s n (s.lineRead n true)
  have hrepeats := activation_repeats (s := s.setAtt n (s.lineRead n true)) (n := n) (by rw [hread]; exact hph)
  rw [lineChange_active, hrepeats, setAtt_setAtt, hread]
  refine finish_attended (setAtt_frame s n _) (setAtt_onlySlot s n _) (setAtt_claimsSound h n _) (fun hf => ?_)
  rw [setAtt_att_self]
  exact hf

/-- Whatever an activation does, it acts on its own slot; phase HOLDOFF, which is set aside, is log entry 11. -/
theorem lineChange_activated_onlySlot (h : s.claimsSound) (hph : (s.att n).phase ≠ .holdoff) :
    OnlySlot n s (s.finish (s.lineChange n true)) := by
  cases hphase : (s.att n).phase with
  | holdoff => exact absurd hphase hph
  | idle =>
    by_cases ha : (s.profile n).action = .ignore
    · rw [lineChange_ignored h hphase ha]
      exact setAtt_onlySlot s n _
    · rw [lineChange_starts hphase ha]
      exact actionEvent_onlySlot h _
  | waitingRecord | fetching | waitingAwake =>
    rw [lineChange_repeats h (by simp [hphase])]
    exact setAtt_onlySlot s n _

theorem lineChange_activated_atnLines (s : State) (n : Slot) : (s.finish (s.lineChange n true)).atnLines = s.atnLines := by
  have fline := ((setAtt_frame s n (s.lineRead n true)).mono (by decide)).trans (activation_frame _ n)
  exact (fline.andThen (finish_frame s _) (c := .passDue :: .shedding :: wakingFields) (by decide) (by decide)
    .atnLines (by decide) : s.atnLines = _).symm

/-- Settles O9: from IDLE the event is an `State.actionEvent`, whose rules say what each action does; in progress it is a repeat. -/
theorem activationStartsOrCounts : Obligations.ActivationStartsOrCounts := by
  unfold Obligations.ActivationStartsOrCounts
  intro n s hsenses hline hclaims hholdoff a p notice
  have fpin := pinMoved_frame s n true
  have hsound := fpin.claimsSound hclaims
  have hstarts : (s.att n).phase = .idle → p.action ≠ .ignore →
      (s.pinMoved n true).finish ((s.pinMoved n true).lineChange n true) =
        (s.pinMoved n true).actionEvent n { a with pending := true } := lineChange_starts (s := s.pinMoved n true)
  have hrepeats : (s.att n).phase = .waitingRecord ∨ (s.att n).phase = .fetching ∨ (s.att n).phase = .waitingAwake →
      (s.pinMoved n true).finish ((s.pinMoved n true).lineChange n true) = (s.pinMoved n true).setAtt n a.repeated :=
    lineChange_repeats (s := s.pinMoved n true) hsound
  have hnoFetch : (s.att n).phase = .idle → (s.att n).phase ≠ .fetching := fun hph hf =>
    AttentionPhase.noConfusion (hph.symm.trans hf)
  have hexec := atnChange_sensed (active := true) hsenses hline
  have honly := lineChange_activated_onlySlot hsound hholdoff
  refine ⟨_, hexec, lineChange_activated_atnLines (s.pinMoved n true) n, fun m hm => honly.att hm, ?_⟩
  split
  next hph ha => exact lineChange_ignored hsound hph ha
  next hph ha =>
    obtain ⟨hended, hraised, hframe⟩ := actionEvent_notice hsound (hnoFetch hph) { a with pending := true } (Or.inl ha)
    rw [hstarts hph (by rw [ha]; decide)]
    exact ⟨hended, hraised, fpin.andThen hframe (by decide) (by decide)⟩
  next hph ha =>
    rw [hstarts hph (by rw [ha]; decide)]
    split
    next hawake =>
      obtain ⟨hended, hraised, hframe⟩ :=
        actionEvent_notice hsound (hnoFetch hph) { a with pending := true } (Or.inr ⟨ha, hawake⟩)
      exact ⟨hended, hraised, fpin.andThen hframe (by decide) (by decide)⟩
    next hawake =>
      obtain ⟨hatt, hgained, hframe⟩ := actionEvent_waits hsound (hnoFetch hph) { a with pending := true } ha hawake
      exact ⟨hatt, hgained, fpin.andThen hframe (by decide) (by decide)⟩
  next hph ha =>
    rw [hstarts hph (by rw [ha]; decide)]
    split
    next hfree => exact actionEvent_fetches hsound { a with pending := true } ha hfree
    next hfull =>
      have hevent := actionEvent_claims hsound (hnoFetch hph) { a with pending := true } ha hfull
      rw [hevent]
      exact ⟨setAtt_att_self _ n _, rfl, fpin.andThen ((setAtt_frame _ n _).andThen (setClaims_frame _ _)
        (c := [.attention, .claims]) (by decide) (by decide)) (by decide) (by decide)⟩
  next hph => exact absurd hph hholdoff
  next hph => exact hrepeats (Or.inl hph)
  next hph => exact hrepeats (Or.inr (Or.inl hph))
  next hph => exact hrepeats (Or.inr (Or.inr hph))

/-! ## The end of a holdoff (R120, R131) -/

/-- The attention record with the sense mode read at the expiry, as the action in force starts anew. -/
def State.reacting (s : State) (n : Slot) : AttentionRecord :=
  { s.att n with senseRead := some (s.profile n).sense, pending := true, phase := .idle, holdoff := none }

theorem holdoffExpiry_repeats (hdue : s.holdoffDue n = true) (hsense : (s.profile n).sense = .level)
    (ha : (s.profile n).action ≠ .ignore) :
    exec (.attentionHoldoffExpiry n) s = .next (s.actionEvent n (s.reacting n)) := by
  simp only [exec, execAttentionHoldoffExpiry, hdue, event_due, State.actionEvent, State.reacting, hsense, ha, updateAtt_eq,
    setAtt_setAtt, setAtt_att_self, ne_eq, not_false_eq_true, and_self, if_true]

theorem holdoffExpiry_ends (hdue : s.holdoffDue n = true) (h : (s.profile n).sense = .edge ∨ (s.profile n).action = .ignore) :
    exec (.attentionHoldoffExpiry n) s =
      .next (s.finish (s.setAtt n { s.att n with senseRead := some (s.profile n).sense }.cleared)) := by
  have hover : ¬ ((s.profile n).sense = .level ∧ (s.profile n).action ≠ .ignore) := by
    rintro ⟨hlevel, ha⟩
    rcases h with h | h
    · exact Sense.noConfusion (h.symm.trans hlevel)
    · exact ha h
  simp only [exec, execAttentionHoldoffExpiry, hdue, event_due, if_neg hover, updateAtt_eq, setAtt_setAtt, setAtt_att_self]

/-- Settles O10: the expiry clears the record, or is an `State.actionEvent` with the action in force. -/
theorem holdoffExpiryRepeatsAction : Obligations.HoldoffExpiryRepeatsAction := by
  unfold Obligations.HoldoffExpiryRepeatsAction
  intro n ms s hrun hphase hholdoff hclaims p
  have hdue : s.holdoffDue n = true := by simp [State.holdoffDue, hrun, hphase, hholdoff]
  have hnoFetch : (s.att n).phase ≠ .fetching := by rw [hphase]; decide
  have hreacting : p.sense = .level → s.reacting n =
      { s.att n with senseRead := some .level, pending := true, phase := .idle, holdoff := none } := fun hlevel => by
    rw [State.reacting, hlevel]
  refine ⟨fun h => ?_, fun hlevel ha => ?_, fun hlevel ha hawake => ?_, fun hlevel ha => ?_⟩
  · rw [holdoffExpiry_ends hdue h, finish_attended (setAtt_frame s n _) (setAtt_onlySlot s n _) (setAtt_claimsSound hclaims n _)
      (fun hf => absurd hf hnoFetch)]
    rfl
  · have hact : p.action ≠ .ignore := by rcases ha with ha | ⟨ha, -⟩ <;> rw [ha] <;> decide
    obtain ⟨hended, hraised, hframe⟩ := actionEvent_notice hclaims hnoFetch (s.reacting n) ha
    refine ⟨_, holdoffExpiry_repeats hdue hlevel hact, ?_, hraised, hframe, fun m hm => (actionEvent_onlySlot hclaims _).att hm⟩
    rwa [hreacting hlevel] at hended ⊢
  · obtain ⟨hatt, hgained, -⟩ := actionEvent_waits hclaims hnoFetch (s.reacting n) ha hawake
    refine ⟨_, holdoffExpiry_repeats hdue hlevel (by rw [ha]; decide), hatt.trans ?_, hgained⟩
    rw [hreacting hlevel]
  · refine ⟨_, holdoffExpiry_repeats hdue hlevel (by rw [ha]; decide), ?_⟩
    split
    next hfree => rw [(actionEvent_fetches hclaims (s.reacting n) ha hfree).1, hreacting hlevel]
    next hfull =>
      have hatt : (s.actionEvent n (s.reacting n)).att n = { s.reacting n with phase := .waitingRecord } := by
        rw [actionEvent_claims hclaims hnoFetch (s.reacting n) ha hfull]
        exact setAtt_att_self s n _
      rw [hatt, hreacting hlevel]

end Sys2Proof.Machine
end

section
/-! The answers: the READY immediate entries, the response queue, and what leaves both alone (R178, R179, R182, R183). -/

set_option Elab.async false

namespace Sys2Proof.Machine

variable {s t u : State} {n : Slot}

/-! ## The entries that the response queue names -/

/-- The immediate entry of a response item, if it names one. -/
def ResponseItem.entry? : ResponseItem → Option (Fin 16)
  | .immediate i => some i
  | .record _ => none

/-- The immediate entries that the response queue names, oldest first (R179). -/
def State.answers (s : State) : List (Fin 16) := s.responses.filterMap ResponseItem.entry?

theorem mem_answers {l : List ResponseItem} {i : Fin 16} :
    i ∈ l.filterMap ResponseItem.entry? ↔ ResponseItem.immediate i ∈ l := by
  rw [List.mem_filterMap]
  constructor
  · rintro ⟨item, hmem, hentry⟩
    cases item with
    | immediate k => obtain rfl := Option.some.inj hentry; exact hmem
    | record r => exact absurd hentry (by simp [ResponseItem.entry?])
  · exact fun hmem => ⟨_, hmem, rfl⟩

theorem count_answers (i : Fin 16) : ∀ l : List ResponseItem,
    (l.filterMap ResponseItem.entry?).count i = l.count (.immediate i)
  | [] => rfl
  | .immediate k :: l => by
    have ih := count_answers i l
    simp [ResponseItem.entry?, List.count_cons, ih]
  | .record r :: l => by
    have hskip : (ResponseItem.record r :: l).filterMap ResponseItem.entry? = l.filterMap ResponseItem.entry? := rfl
    rw [hskip, count_answers i l, List.count_cons_of_ne (by simp)]

/-- Entries and names agree: each READY entry is named once, and no other entry is (R178, R179). -/
def AnswersMatch (entries : Vector ImmediateEntry 16) (names : List (Fin 16)) : Prop :=
  (∀ i : Fin 16, (∃ r, entries[i] = .ready r) ↔ i ∈ names) ∧ names.Nodup

/-- The entry of a RESTART that waits is RESERVED, and no take is due (R161, R183). -/
def State.restartReserved (s : State) : Prop :=
  ∀ entry requester tag, s.restart = .waiting entry requester tag → s.immediate[entry] = .reserved ∧ s.taking = false

theorem responsesSound_iff (s : State) :
    s.responsesSound ↔ AnswersMatch s.immediate s.answers ∧ s.restartReserved := by
  have hnodup : s.answers.Nodup ↔ ∀ i : Fin 16, s.responses.count (.immediate i) ≤ 1 := by
    simp only [List.nodup_iff_count_le_one, State.answers, count_answers]
  have hrestart : s.restartReserved ↔ (match s.restart with
      | .waiting entry _ _ => s.immediate[entry] = .reserved ∧ s.taking = false
      | .noRestart => True) := by
    unfold State.restartReserved
    cases s.restart with
    | noRestart => simp
    | waiting entry requester tag => simp
  have hnames : (∀ i : Fin 16, (∃ r, s.immediate[i] = .ready r) ↔ i ∈ s.answers) ↔
      ∀ i : Fin 16, (∃ r, s.immediate[i] = .ready r) ↔ ResponseItem.immediate i ∈ s.responses := by
    simp only [State.answers, mem_answers]
  rw [AnswersMatch, hnames, hnodup, hrestart, and_assoc]
  rfl

/-- One entry is set, and the names change for this entry alone. -/
theorem AnswersMatch.set {entries : Vector ImmediateEntry 16} {names names' : List (Fin 16)} {x : ImmediateEntry} {e : Fin 16}
    (h : AnswersMatch entries names) (hnodup : names'.Nodup) (hother : ∀ i, i ≠ e → (i ∈ names' ↔ i ∈ names))
    (hself : (∃ r, x = .ready r) ↔ e ∈ names') : AnswersMatch (entries.set e x) names' := by
  refine ⟨fun i => ?_, hnodup⟩
  by_cases hi : i = e
  · subst hi; simpa using hself
  · have hval : e.val ≠ i.val := fun he => hi (Fin.ext he.symm)
    rw [hother i hi, ← h.1 i]
    simp [hval]

/-- An entry that is not READY is not named. -/
theorem AnswersMatch.unnamed {entries : Vector ImmediateEntry 16} {names : List (Fin 16)} {e : Fin 16}
    (h : AnswersMatch entries names) (he : ∀ r, entries[e] ≠ .ready r) : e ∉ names := fun hmem => by
  obtain ⟨r, hr⟩ := (h.1 e).mpr hmem
  exact he r hr

/-- An entry that is not READY becomes READY and joins the queue (R178, R179). -/
theorem AnswersMatch.answered {entries : Vector ImmediateEntry 16} {names : List (Fin 16)} {e : Fin 16}
    (h : AnswersMatch entries names) (he : ∀ r, entries[e] ≠ .ready r) (r : Response) :
    AnswersMatch (entries.set e (.ready r)) (names ++ [e]) := by
  have hnew := h.unnamed he
  exact h.set (List.nodup_append.mpr ⟨h.2, List.nodup_singleton e, by simpa using fun i hi => ne_of_mem_of_not_mem hi hnew⟩)
    (fun i hi => by simp [hi]) (by simp)

/-- An entry that is not READY is reserved (R178, R183). -/
theorem AnswersMatch.reserved {entries : Vector ImmediateEntry 16} {names : List (Fin 16)} {e : Fin 16}
    (h : AnswersMatch entries names) (he : ∀ r, entries[e] ≠ .ready r) : AnswersMatch (entries.set e .reserved) names := by
  have hnew := h.unnamed he
  exact h.set h.2 (fun _ _ => Iff.rfl) (by simp [hnew])

/-- The oldest name leaves the queue, and its entry is free (R182). -/
theorem AnswersMatch.sent {entries : Vector ImmediateEntry 16} {names : List (Fin 16)} {e : Fin 16}
    (h : AnswersMatch entries (e :: names)) : AnswersMatch (entries.set e .free) names := by
  obtain ⟨hnew, hnodup⟩ := List.nodup_cons.mp h.2
  exact h.set hnodup (fun i hi => by simp [hi]) (by simp [hnew])

/-! ## Operations that leave answers and units alone -/

/-- The immediate entries, the names of the response queue, the restart and the Unit Map are as they were; the queue may have gained
or lost records. -/
structure SameAnswers (s t : State) : Prop where
  immediate : t.immediate = s.immediate
  answers : t.answers = s.answers
  restart : t.restart = s.restart
  taking : t.taking = s.taking
  unitMap : t.unitMap = s.unitMap

theorem SameAnswers.refl (s : State) : SameAnswers s s := ⟨rfl, rfl, rfl, rfl, rfl⟩

theorem SameAnswers.trans (h : SameAnswers s t) (k : SameAnswers t u) : SameAnswers s u :=
  ⟨k.immediate.trans h.immediate, k.answers.trans h.answers, k.restart.trans h.restart, k.taking.trans h.taking,
    k.unitMap.trans h.unitMap⟩

theorem SameAnswers.ite {p : Prop} [Decidable p] (h : p → SameAnswers s t) (k : ¬ p → SameAnswers s u) :
    SameAnswers s (if p then t else u) := by
  split
  · exact h ‹_›
  · exact k ‹_›

theorem SameAnswers.foldl {α : Type} {op : State → α → State} (h : ∀ s x, SameAnswers s (op s x)) :
    ∀ (l : List α) (s : State), SameAnswers s (l.foldl op s)
  | [], s => SameAnswers.refl s
  | x :: l, s => (h s x).trans (SameAnswers.foldl h l (op s x))

/-- An operation whose frame leaves these fields alone, but perhaps the response queue. -/
theorem SameAnswers.of_answers {a : List Field} (f : Unchanged a s t) (h : t.answers = s.answers)
    (ha : ∀ f ∈ [Field.immediate, .restart, .taking, .unitMap], f ∉ a := by decide) : SameAnswers s t :=
  ⟨(f .immediate (ha _ (by decide)) : s.immediate = _).symm, h, (f .restart (ha _ (by decide)) : s.restart = _).symm,
    (f .taking (ha _ (by decide)) : s.taking = _).symm, (f .unitMap (ha _ (by decide)) : s.unitMap = _).symm⟩

theorem Unchanged.answers {a : List Field} (f : Unchanged a s t) (ha : Field.responses ∉ a := by decide) :
    t.answers = s.answers := by
  rw [State.answers, State.answers, (f .responses ha : s.responses = _)]

theorem SameAnswers.of_frame {a : List Field} (f : Unchanged a s t)
    (ha : ∀ f ∈ [Field.immediate, .responses, .restart, .taking, .unitMap], f ∉ a := by decide) : SameAnswers s t :=
  SameAnswers.of_answers f (f.answers (ha _ (by decide))) (fun g hg => ha g (by revert g; decide))

/-! ## The shared operations -/

/-- A record that completes names no immediate entry (R87). -/
theorem handOff_answers (s : State) (r : Record) (st : Status) (d : List Byte) (h : Bool) :
    (s.handOff r st d h).answers = s.answers := by
  have hnone : (handedOn r st d).filterMap ResponseItem.entry? = [] := by
    unfold handedOn
    split <;> rfl
  rw [State.answers, handOff_responses, List.filterMap_append, hnone, List.append_nil, State.answers]

theorem handOff_sameAnswers (s : State) (r : Record) (st : Status) (d : List Byte) (h : Bool) :
    SameAnswers s (s.handOff r st d h) :=
  SameAnswers.of_answers (handOff_frame s r st d h) (handOff_answers s r st d h)

theorem completeAll_sameAnswers (s : State) (rs : List Record) (st : Record → Status) (h : Bool) :
    SameAnswers s (s.completeAll rs st h) :=
  SameAnswers.foldl (fun s r => handOff_sameAnswers s r (st r) [] h) rs s

theorem setQueue_sameAnswers (s : State) (n : Slot) (q : List Record) : SameAnswers s (s.setQueue n q) :=
  SameAnswers.of_frame (setQueue_frame s n q)

theorem setSlot_sameAnswers (s : State) (n : Slot) (r : SlotRecord) : SameAnswers s (s.setSlot n r) :=
  SameAnswers.of_frame (setSlot_frame s n r)

theorem setAtt_sameAnswers (s : State) (n : Slot) (a : AttentionRecord) : SameAnswers s (s.setAtt n a) :=
  SameAnswers.of_frame (setAtt_frame s n a)

theorem enterFaulted_sameAnswers (s : State) (n : Slot) (k : FaultKind) : SameAnswers s (s.enterFaulted n k) := by
  unfold State.enterFaulted
  refine SameAnswers.trans ?_ (SameAnswers.of_frame (reportFault_frame _ n _ _ _ _))
  refine SameAnswers.trans ?_ (SameAnswers.of_frame (attentionAtFault_frame _ n))
  refine SameAnswers.trans ?_ (completeAll_sameAnswers _ _ _ _)
  refine SameAnswers.trans ?_ (setQueue_sameAnswers _ n _)
  refine SameAnswers.trans ?_ (setAtt_sameAnswers _ n _)
  exact (SameAnswers.of_frame (changeState_frame s n .faulted [])).trans (SameAnswers.of_frame (removeEntry_frame _ n))

theorem finish_sameAnswers (s t : State) : SameAnswers t (s.finish t) := SameAnswers.of_frame (finish_frame s t)

theorem event_sameAnswers {due : Bool} {effect : State → State} (h : event due s effect = .next t)
    (he : SameAnswers s (effect s)) : SameAnswers s t := by
  injection h with h
  subst h
  exact SameAnswers.ite (fun _ => he.trans (finish_sameAnswers s _)) (fun _ => SameAnswers.refl s)

theorem quietEvent_sameAnswers {due : Bool} {effect : State → State} (h : quietEvent due s effect = .next t)
    (he : SameAnswers s (effect s)) : SameAnswers s t := by
  injection h with h
  subst h
  exact SameAnswers.ite (fun _ => he) (fun _ => SameAnswers.refl s)

/-! ## The Budget Arbiter -/

theorem evaluate_sameAnswers : ∀ (fuel : Nat) (s : State), SameAnswers s (State.evaluate fuel s)
  | 0, s => SameAnswers.refl s
  | fuel + 1, s => by
    have hgrant : ∀ (v : State) (n : Slot), SameAnswers v (v.grant n) := fun v n => SameAnswers.of_frame (grant_frame v n)
    rw [evaluate_succ]
    split
    · exact SameAnswers.refl s
    · refine SameAnswers.ite (fun _ => (hgrant s _).trans (evaluate_sameAnswers fuel _)) (fun _ => ?_)
      refine SameAnswers.ite (fun _ => SameAnswers.refl s) (fun _ => ?_)
      split
      · exact (SameAnswers.of_frame (setEvictionSet_frame s _)).trans
          (SameAnswers.foldl (fun v n => SameAnswers.of_frame (evict_frame v n)) _ _)
      · refine SameAnswers.ite (fun _ => ?_) (fun _ => SameAnswers.refl s)
        split
        · exact ((SameAnswers.of_frame (countPass_frame s _)).trans (hgrant _ _)).trans (evaluate_sameAnswers fuel _)
        · exact SameAnswers.refl s

theorem selectVictims_sameAnswers : ∀ (fuel : Nat) (s : State), SameAnswers s (State.selectVictims fuel s)
  | 0, s => SameAnswers.refl s
  | fuel + 1, s => by
    have hvictim : ∀ n, SameAnswers s (s.selectVictim n) := fun n =>
      (SameAnswers.of_frame (shedSlot_frame s n)).trans (SameAnswers.of_frame (selectVictim_frame s n))
    rw [selectVictims_succ]
    refine SameAnswers.ite (fun _ => SameAnswers.refl s) (fun _ => ?_)
    split
    · exact SameAnswers.refl s
    · exact SameAnswers.ite (fun _ => (hvictim _).trans (SameAnswers.of_frame (endShedding_frame _ _)))
        (fun _ => (hvictim _).trans (selectVictims_sameAnswers fuel _))

/-! ## The chain -/

theorem dispatch_sameAnswers (s : State) (n : Slot) : SameAnswers s (s.dispatch n) := by
  unfold State.dispatch
  split <;> exact ⟨rfl, rfl, rfl, rfl, rfl⟩

theorem select_sameAnswers (s : State) : SameAnswers s s.select := by
  unfold State.select
  split
  · have f := startControl_frame s
    exact SameAnswers.ite
      (fun _ => (SameAnswers.of_frame (f _ _)).trans (SameAnswers.of_frame (changeState_frame _ _ .settling [])))
      (fun _ => SameAnswers.of_frame (f _ _))
  · split
    · exact dispatch_sameAnswers s _
    · exact SameAnswers.refl s

theorem dataEnd_sameAnswers (s : State) (n : Slot) (o : AttemptOutcome) : SameAnswers s (s.dataEnd n o) := by
  cases hq : s.queue n with
  | nil => rw [dataEnd_nil o hq]; exact SameAnswers.refl s
  | cons r rest =>
    have hdone : SameAnswers s (s.dataDone n r rest o) := ((setQueue_sameAnswers s n rest).trans
      (handOff_sameAnswers _ r _ _ true)).trans (SameAnswers.of_frame (used_frame _ n))
    rw [dataEnd_done hq]
    exact SameAnswers.ite (fun _ => hdone.trans (SameAnswers.of_frame (towardsRest_frame _ n)))
      (fun _ => hdone.trans (SameAnswers.of_frame (startIdleHold_frame _ n)))

theorem enterAwake_sameAnswers (s : State) (n : Slot) (d : List Byte) : SameAnswers s (s.enterAwake n d) := by
  have hawake := SameAnswers.of_frame (changeState_frame s n .awake d)
  have hsensing : ∀ v : State, SameAnswers v (v.beginSensing n) := fun v => by
    dsimp only [State.beginSensing]
    exact SameAnswers.ite (fun _ => (setAtt_sameAnswers v n _).trans (SameAnswers.of_frame (activation_frame _ n)))
      (fun _ => setAtt_sameAnswers v n _)
  dsimp only [State.enterAwake]
  refine SameAnswers.trans ?_ (SameAnswers.of_frame (startIdleHold_frame _ n))
  refine SameAnswers.ite (fun _ => hawake.trans (hsensing _)) (fun _ => ?_)
  exact SameAnswers.ite (fun _ => hawake.trans (SameAnswers.of_frame (endAction_frame _ n _ _ _))) (fun _ => hawake)

theorem identifyEnd_sameAnswers (s : State) (n : Slot) (o : AttemptOutcome) : SameAnswers s (s.identifyEnd n o) := by
  dsimp only [State.identifyEnd]
  split
  · exact SameAnswers.of_frame (enterOff_frame s n _)
  · split
    · exact SameAnswers.ite (fun _ => enterAwake_sameAnswers s n _) (fun _ => enterFaulted_sameAnswers s n _)
    · split
      · exact enterFaulted_sameAnswers s n _
      · exact SameAnswers.of_frame (loadPoll_frame s n _ _)

theorem wakeEnd_sameAnswers (s : State) (n : Slot) : SameAnswers s (s.wakeEnd n) := by
  dsimp only [State.wakeEnd]
  split
  · exact SameAnswers.of_frame (enterOff_frame s n _)
  · exact enterFaulted_sameAnswers s n _
  · exact SameAnswers.of_frame (loadPoll_frame s n _ _)

theorem slumberEnd_sameAnswers (s : State) (n : Slot) (o : AttemptOutcome) : SameAnswers s (s.slumberEnd n o) := by
  unfold State.slumberEnd
  split
  · exact SameAnswers.refl s
  · split
    · exact SameAnswers.of_frame (enterSlumber_frame s n _)
    · exact (SameAnswers.of_frame (enterOff_frame s n _)).trans (SameAnswers.of_frame (reportFault_frame _ n _ _ _ _))
    · exact SameAnswers.of_frame (enterOff_frame s n _)

theorem exchangeEnd_sameAnswers (s : State) (e : Exchange) (o : AttemptOutcome) : SameAnswers s (s.exchangeEnd e o) := by
  have hfreed := SameAnswers.of_frame (freed_frame s)
  rw [exchangeEnd_eq]
  split
  · exact hfreed.trans (dataEnd_sameAnswers _ _ o)
  · exact hfreed.trans (dataEnd_sameAnswers _ _ o)
  · exact hfreed.trans (slumberEnd_sameAnswers _ _ o)
  · exact hfreed.trans (wakeEnd_sameAnswers _ _)
  · exact hfreed.trans (identifyEnd_sameAnswers _ _ o)

theorem attemptEnd_sameAnswers (s : State) (e : Exchange) (o : AttemptOutcome) : SameAnswers s (s.attemptEnd e o) := by
  have hcounted : SameAnswers s (s.counted e o) := setSlot_sameAnswers s e.slot _
  rw [attemptEnd_eq]
  refine SameAnswers.ite (fun _ => ?_) (fun _ => SameAnswers.ite (fun _ => ?_) (fun _ => ?_))
  · exact (hcounted.trans (SameAnswers.of_frame (freed_frame _))).trans (enterFaulted_sameAnswers _ _ _)
  · exact hcounted.trans (SameAnswers.of_frame (retry_frame _ e))
  · exact hcounted.trans (exchangeEnd_sameAnswers _ e o)

/-! ## Attention lines -/

theorem lineChange_sameAnswers (s : State) (n : Slot) (active : Bool) : SameAnswers s (s.lineChange n active) := by
  dsimp only [State.lineChange]
  split
  · exact (setAtt_sameAnswers s n _).trans (SameAnswers.of_frame (activation_frame _ n))
  · exact setAtt_sameAnswers s n _
  · exact (setAtt_sameAnswers s n _).trans (SameAnswers.of_frame (deactivation_frame _ n))

end Sys2Proof.Machine
end

section
/-! The answers and the Unit Map: the requests, the restart, the link, and every step (R134, R178, R179, R182, R183). -/

set_option Elab.async false

namespace Sys2Proof.Machine

variable {s t u : State} {n : Slot}

/-! ## The relation of an operation that keeps the two laws -/

/-- From `s` to `t` the law of the answers and that of the unit numbers are kept, each by itself. -/
structure KeepsAnswers (s t : State) : Prop where
  responses : s.responsesSound → t.responsesSound
  units : s.unitsDistinct → t.unitsDistinct

theorem KeepsAnswers.refl (s : State) : KeepsAnswers s s := ⟨id, id⟩

theorem KeepsAnswers.trans (h : KeepsAnswers s t) (k : KeepsAnswers t u) : KeepsAnswers s u :=
  ⟨k.responses ∘ h.responses, k.units ∘ h.units⟩

theorem SameAnswers.keeps (h : SameAnswers s t) : KeepsAnswers s t := by
  refine ⟨fun hs => ?_, fun hs => ?_⟩
  · rw [responsesSound_iff] at hs ⊢
    rw [State.restartReserved, h.immediate, h.answers, h.restart, h.taking]
    exact hs
  · rw [State.unitsDistinct, h.unitMap]
    exact hs

/-! ## Takes -/

theorem ne_ready_of_free {x : ImmediateEntry} (h : x = .free) (r : Response) : x ≠ .ready r := by
  rw [h]; exact ImmediateEntry.noConfusion

theorem ne_ready_of_reserved {x : ImmediateEntry} (h : x = .reserved) (r : Response) : x ≠ .ready r := by
  rw [h]; exact ImmediateEntry.noConfusion

/-- The entry that a take reserves is FREE (R178). -/
theorem takeHead_free {k : TakeKind} {c : Taken} {frame : List Byte} (h : s.takeHead k = some (c, frame)) :
    s.immediate[c.entry] = .free := by
  unfold State.takeHead at h
  split at h
  · rename_i i _ _ hfree
    split at h
    · obtain ⟨rfl, _⟩ := Prod.mk.inj (Option.some.inj h)
      simpa using List.find?_some hfree
    · exact absurd h (by simp)
  · exact absurd h (by simp)

/-- The answer of a taken frame: its FREE entry becomes READY and joins the queue (R178, R179). -/
theorem respond_keepsAnswers {c : Taken} (hfree : s.immediate[c.entry] = .free) (st : Status) (d : List Byte) :
    KeepsAnswers s (s.respond c st d) := by
  refine ⟨fun hs => ?_, id⟩
  rw [responsesSound_iff] at hs ⊢
  obtain ⟨hmatch, hrestart⟩ := hs
  have hanswers : (s.respond c st d).answers = s.answers ++ [c.entry] := List.filterMap_append
  refine ⟨?_, fun entry q tag hw => ?_⟩
  · rw [hanswers]
    exact hmatch.answered (ne_ready_of_free hfree) _
  · obtain ⟨hres, htaking⟩ := hrestart entry q tag hw
    have hne : c.entry.val ≠ entry.val := fun he => by
      rw [← Fin.ext he, hfree] at hres
      exact ImmediateEntry.noConfusion hres
    exact ⟨by simpa [State.respond, hne] using hres, htaking⟩

/-- An operation that leaves the answers alone, and then the answer. -/
theorem SameAnswers.answered (h : SameAnswers s t) {c : Taken} (hfree : s.immediate[c.entry] = .free) (st : Status)
    (d : List Byte) : KeepsAnswers s (t.respond c st d) :=
  h.keeps.trans (respond_keepsAnswers (by rw [h.immediate]; exact hfree) st d)

/-- The same, and then the end of the event. -/
theorem SameAnswers.finished (h : SameAnswers s t) {c : Taken} (hfree : s.immediate[c.entry] = .free) (st : Status)
    (d : List Byte) : KeepsAnswers s (s.finish (t.respond c st d)) :=
  (h.answered hfree st d).trans (finish_sameAnswers s _).keeps

/-- An operation on a taken frame keeps the laws where the frame's entry is FREE. -/
def CarryKeeps {α : Type} (carry : Taken → α → State → State) : Prop :=
  ∀ c a s, s.immediate[c.entry] = .free → KeepsAnswers s (carry c a s)

theorem CarryKeeps.take {α : Type} {k : TakeKind} {form : List Byte → Option α} {carry : Taken → α → State → State}
    (hc : CarryKeeps carry) (h : take k form carry s = .next t) : KeepsAnswers s t := by
  injection h with h
  subst h
  split
  · exact KeepsAnswers.refl s
  · rename_i c frame hhead
    refine (SameAnswers.of_frame (setIngress_frame s s.ingress.tail)).keeps.trans ?_
    generalize hv : ({ s with ingress := s.ingress.tail } : State) = v
    have hfree : v.immediate[c.entry] = .free := by
      have hhold := takeHead_free hhead
      rw [← hv]
      exact hhold
    unfold commonChecks
    split
    · exact respond_keepsAnswers hfree _ _
    · split
      · exact respond_keepsAnswers hfree _ _
      · split
        · exact respond_keepsAnswers hfree _ _
        · exact hc c _ _ hfree

/-- A management operation that is taken (R146). -/
theorem CarryKeeps.manage {α : Type} {op : Taken → α → State → State} (hop : CarryKeeps op) : CarryKeeps (manage op) :=
  fun c a s hfree => by
    unfold Machine.manage
    split
    · exact respond_keepsAnswers hfree _ _
    · exact hop c a s hfree

theorem CarryKeeps.withSlot {op : Taken → Slot → State → State} (hop : CarryKeeps op) : CarryKeeps (withSlot op) :=
  fun c b s hfree => by
    unfold Machine.withSlot
    split
    · exact respond_keepsAnswers hfree _ _
    · exact hop c _ s hfree

theorem admitData_answers : CarryKeeps admitData := fun c q s hfree => by
  unfold admitData
  split
  · exact respond_keepsAnswers hfree _ _
  · rename_i e _
    have hjoin := SameAnswers.of_frame (joinQueue_frame s e.slot (s.requestRecord c e q))
    dsimp only
    split
    · exact hjoin.finished hfree .posted []
    · exact (hjoin.trans (finish_sameAnswers s _)).keeps

/-! ## The Unit Map -/

/-- A valid entry that is read has a unit number (R134). -/
theorem readUnitEntry_number {bytes : List Byte} {e : UnitEntry} (h : readUnitEntry bytes = some e) (hv : e.valid = true) :
    e.number ≠ 0 := by
  unfold readUnitEntry at h
  split at h
  · split at h
    · exact absurd h (by simp)
    · rw [Option.ite_none_right_eq_some] at h
      obtain ⟨⟨_, _, hnumber⟩, he⟩ := h
      obtain rfl := Option.some.inj he
      exact fun hn => hnumber ⟨hv, hn⟩
  · exact absurd h (by simp)

/-- What `numberTaken` looks for: a valid entry at another index with the number (R134). -/
theorem numberTaken_iff (s : State) (i : Nat) (e : UnitEntry) : s.numberTaken i e = true ↔
    e.valid = true ∧ ∃ j : Fin 128, j.val ≠ i ∧ s.unitMap[j].valid = true ∧ s.unitMap[j].number = e.number := by
  have hany : s.unitMap.toList.zipIdx.any (fun p => p.2 != i && p.1.valid && p.1.number == e.number) = true ↔
      ∃ j : Fin 128, j.val ≠ i ∧ s.unitMap[j].valid = true ∧ s.unitMap[j].number = e.number := by
    rw [List.any_eq_true]
    constructor
    · rintro ⟨⟨x, j⟩, hmem, hp⟩
      obtain ⟨_, hj, hx⟩ := List.mem_zipIdx hmem
      simp only [Bool.and_eq_true, bne_iff_ne, beq_iff_eq] at hp
      obtain ⟨⟨hne, hvalid⟩, hnumber⟩ := hp
      refine ⟨⟨j, by simpa using hj⟩, hne, ?_⟩
      have hentry : s.unitMap[j]'(by simpa using hj) = x := by rw [hx]; simp
      exact ⟨by rw [Fin.getElem_fin, hentry]; exact hvalid, by rw [Fin.getElem_fin, hentry]; exact hnumber⟩
    · rintro ⟨j, hne, hvalid, hnumber⟩
      refine ⟨(s.unitMap[j], j.val), ?_, by simpa using ⟨⟨hne, hvalid⟩, hnumber⟩⟩
      rw [List.mem_zipIdx_iff_getElem?]
      simp
  rw [State.numberTaken, Bool.and_eq_true, hany]

/-- An entry whose number no other valid entry has is stored (R134). -/
theorem setUnit_distinct {i : Nat} (h : i < 128) {e : UnitEntry} (hs : s.unitsDistinct) (hn : e.valid = true → e.number ≠ 0)
    (ht : s.numberTaken i e = false) : ({ s with unitMap := s.unitMap.set i e } : State).unitsDistinct := by
  obtain ⟨hzero, hinj⟩ := hs
  have hfree : ∀ j : Fin 128, j.val ≠ i → e.valid = true → s.unitMap[j].valid = true → s.unitMap[j].number ≠ e.number :=
    fun j hj hv hvj hnum => by
      have htaken := (numberTaken_iff s i e).mpr ⟨hv, j, hj, hvj, hnum⟩
      rw [ht] at htaken
      exact Bool.noConfusion htaken
  have hentry : ∀ j : Fin 128, (s.unitMap.set i e)[j] = if j.val = i then e else s.unitMap[j] := fun j => by
    simp [Vector.getElem_set, eq_comm]
  refine ⟨fun j => ?_, fun j k => ?_⟩
  · simp only [hentry]
    split
    · exact hn
    · exact hzero j
  · simp only [hentry]
    split
    · rename_i hj
      split
      · rename_i hk
        exact fun _ _ _ => Fin.ext (hj.trans hk.symm)
      · rename_i hk
        exact fun hv hvk hnum => absurd hnum.symm (hfree k hk hv hvk)
    · rename_i hj
      split
      · exact fun hvj hv hnum => absurd hnum (hfree j hj hv hvj)
      · exact hinj j k

theorem writeUnitOp_answers : CarryKeeps writeUnitOp := fun c a s hfree => by
  unfold writeUnitOp
  split
  · rename_i hi
    split
    · exact respond_keepsAnswers hfree _ _
    · rename_i e he
      split
      · exact respond_keepsAnswers hfree _ _
      · rename_i htaken
        exact ⟨(respond_keepsAnswers hfree _ _).responses,
          fun hs => setUnit_distinct hi hs (readUnitEntry_number he) (by simpa using htaken)⟩
  · exact respond_keepsAnswers hfree _ _

/-! ## The other tables, and the reports -/

/-- An operation that only answers (R152 to R154). -/
theorem respond_answers {α : Type} {st : Status} {contents : α → State → List Byte} :
    CarryKeeps (fun c a s => s.respond c st (contents a s)) := fun _ _ _ hfree => respond_keepsAnswers hfree _ _

theorem readEntryOp_answers : CarryKeeps readEntryOp := fun c a s hfree => by
  unfold readEntryOp
  split <;> exact respond_keepsAnswers hfree _ _

theorem setRequesters_sameAnswers (s : State) (v : Vector RequesterEntry 8) : SameAnswers s { s with requesters := v } :=
  ⟨rfl, rfl, rfl, rfl, rfl⟩

theorem writeRequesterOp_answers : CarryKeeps writeRequesterOp := fun c a s hfree => by
  unfold writeRequesterOp
  split
  · split
    · exact respond_keepsAnswers hfree _ _
    · split
      · exact respond_keepsAnswers hfree _ _
      · exact (setRequesters_sameAnswers s _).answered hfree _ _
  · exact respond_keepsAnswers hfree _ _

theorem storeProfile_sameAnswers (s : State) (n : Slot) (p : Profile) : SameAnswers s (s.storeProfile n p) := by
  have hhold : ∀ (v : State) (old : Nat), SameAnswers v (v.idleHoldWritten n old) := fun v old => by
    unfold State.idleHoldWritten
    exact SameAnswers.ite (fun _ => SameAnswers.refl v) (fun _ => SameAnswers.ite (fun _ => setSlot_sameAnswers v n _)
      (fun _ => SameAnswers.of_frame (startIdleHold_frame v n)))
  have hstored := (SameAnswers.of_frame (setProfiles_frame s (s.profiles.set n p))).trans (hhold _ (s.profile n).idleHold)
  dsimp only [State.storeProfile]
  exact SameAnswers.ite (fun _ => hstored.trans (SameAnswers.of_frame (markEvaluation_frame _))) (fun _ => hstored)

theorem writeProfileOp_answers : CarryKeeps writeProfileOp := fun c a s hfree => by
  unfold writeProfileOp
  split
  · split
    · exact respond_keepsAnswers hfree _ _
    · dsimp only
      split
      · exact respond_keepsAnswers hfree _ _
      · exact (storeProfile_sameAnswers s _ _).answered hfree _ _
  · exact respond_keepsAnswers hfree _ _

theorem writeChainOp_answers : CarryKeeps writeChainOp := fun c a s hfree => by
  unfold writeChainOp
  split
  · exact respond_keepsAnswers hfree _ _
  · split
    · exact respond_keepsAnswers hfree _ _
    · exact (SameAnswers.of_frame (setChain_frame s _)).answered hfree _ _

theorem writeBudgetOp_answers : CarryKeeps writeBudgetOp := fun c a s hfree => by
  unfold writeBudgetOp
  split
  · exact respond_keepsAnswers hfree _ _
  · split
    · exact respond_keepsAnswers hfree _ _
    · exact ((SameAnswers.of_frame (setBudget_frame s _)).trans (SameAnswers.of_frame (limitSet_frame _ _ _))).answered hfree _ _

theorem findUnitOp_answers : CarryKeeps findUnitOp := fun c unit s hfree => by
  unfold findUnitOp
  split <;> exact respond_keepsAnswers hfree _ _

theorem readFaultOp_answers : CarryKeeps readFaultOp := fun c a s hfree => by
  unfold readFaultOp
  split
  · exact respond_keepsAnswers hfree _ _
  · exact (SameAnswers.of_frame (setFreeIndex_frame s _)).answered hfree _ _

theorem clearFaultOp_answers : CarryKeeps clearFaultOp := fun c serial s hfree => by
  unfold clearFaultOp
  split
  · exact respond_keepsAnswers hfree _ _
  · split
    · exact respond_keepsAnswers hfree _ _
    · exact (SameAnswers.of_frame (setFault_frame s _)).answered hfree _ _

/-! ## Slot commands -/

theorem slotWakeOp_answers : CarryKeeps slotWakeOp := fun c a s hfree => by
  unfold slotWakeOp
  split
  · exact respond_keepsAnswers hfree _ _
  · exact respond_keepsAnswers hfree _ _
  · split
    · exact respond_keepsAnswers hfree _ _
    · split
      · exact respond_keepsAnswers hfree _ _
      · split
        · exact (SameAnswers.of_frame (gainReason_frame s _ _ _)).answered hfree _ _
        · exact respond_keepsAnswers hfree _ _

theorem slotRestOp_answers : CarryKeeps slotRestOp := fun c n s hfree => by
  unfold slotRestOp
  split
  · split
    · exact (SameAnswers.of_frame (startDrain_frame s n _ _)).finished hfree _ _
    · exact respond_keepsAnswers hfree _ _
  · exact respond_keepsAnswers hfree _ _

theorem attentionOff_sameAnswers (s : State) (n : Slot) : SameAnswers s (s.attentionOff n) := by
  unfold State.attentionOff
  split
  · exact SameAnswers.refl s
  · exact SameAnswers.refl s
  · exact setAtt_sameAnswers s n _
  · exact (SameAnswers.of_frame (setClaims_frame s _)).trans (SameAnswers.of_frame (endAction_frame _ n _ _ _))
  · exact SameAnswers.of_frame (endAction_frame s n _ _ _)

theorem residencyOff_sameAnswers (s : State) (n : Slot) : SameAnswers s (s.residencyOff n) := by
  have htarget : SameAnswers s (s.retargetOff n) := setSlot_sameAnswers s n _
  unfold State.residencyOff
  split
  · exact SameAnswers.refl s
  · exact SameAnswers.refl s
  · exact SameAnswers.of_frame (switchOff_frame s n _)
  · exact SameAnswers.of_frame (switchOff_frame s n _)
  · exact SameAnswers.of_frame (switchOff_frame s n _)
  · exact SameAnswers.of_frame (startDrain_frame s n _ _)
  · exact SameAnswers.trans (t := { s.retargetOff n with control := (s.retargetOff n).control.filter (fun x => x.slot != n) })
      ⟨rfl, rfl, rfl, rfl, rfl⟩ (SameAnswers.of_frame (towardsRest_frame _ n))
  · exact htarget

theorem slotOffOp_answers : CarryKeeps slotOffOp := fun c n s hfree => by
  have haborted : SameAnswers s (s.abortQueued n) := (setQueue_sameAnswers s n _).trans (completeAll_sameAnswers _ _ _ _)
  have h : SameAnswers s (s.abandoned n) := ((haborted.trans (attentionOff_sameAnswers _ n)).trans
    (SameAnswers.of_frame (removeEntry_frame _ n))).trans (residencyOff_sameAnswers _ n)
  exact SameAnswers.finished (SameAnswers.ite (fun _ => h.trans (SameAnswers.of_frame (markPass_frame _))) (fun _ => h)) hfree _ _

theorem pinSlot_sameAnswers (s : State) (n : Slot) : SameAnswers s (s.pinSlot n) := by
  have h : SameAnswers s (s.setSlot n { s.slot n with pin := true }) := setSlot_sameAnswers s n _
  dsimp only [State.pinSlot]
  split
  · exact h.trans (SameAnswers.of_frame (gainReason_frame _ n _ _))
  · exact h.trans (SameAnswers.of_frame (gainReason_frame _ n _ _))
  · exact h.trans (setSlot_sameAnswers _ n _)
  · exact SameAnswers.ite (fun _ => h.trans (SameAnswers.of_frame (cancelDrain_frame _ n))) (fun _ => h)
  all_goals exact h

theorem unpinSlot_sameAnswers (s : State) (n : Slot) : SameAnswers s (s.unpinSlot n) := by
  have h : SameAnswers s (s.setSlot n { s.slot n with pin := false }) := setSlot_sameAnswers s n _
  dsimp only [State.unpinSlot]
  split
  · exact h.trans (SameAnswers.of_frame (withdrawReason_frame _ n _))
  · exact h.trans (SameAnswers.of_frame (withdrawReason_frame _ n _))
  · exact h.trans (SameAnswers.of_frame (startIdleHold_frame _ n))
  all_goals exact h

theorem pinOp_answers : CarryKeeps pinOp := fun c n s hfree => by
  unfold pinOp
  split
  · exact respond_keepsAnswers hfree _ _
  · exact (pinSlot_sameAnswers s n).finished hfree _ _

theorem unpinOp_answers : CarryKeeps unpinOp := fun c n s hfree => by
  unfold unpinOp
  split
  · exact (unpinSlot_sameAnswers s n).finished hfree _ _
  · exact respond_keepsAnswers hfree _ _

theorem slotClearOp_answers : CarryKeeps slotClearOp := fun c n s hfree => by
  have h : SameAnswers s (s.cleared n) :=
    (SameAnswers.of_frame (changeState_frame s n .off [])).trans (setSlot_sameAnswers _ n _)
  unfold slotClearOp
  split
  · rw [clearSlot_eq]
    exact SameAnswers.finished (SameAnswers.ite (fun _ => h.trans (SameAnswers.of_frame (gainReason_frame _ n _ _))) (fun _ => h))
      hfree _ _
  · exact respond_keepsAnswers hfree _ _

/-! ## The warm restart -/

/-- The entry of a RESTART stays RESERVED until the completion answers (R161, R183). -/
theorem restartOp_answers : CarryKeeps restartOp := fun c a s hfree => by
  refine ⟨fun hs => ?_, id⟩
  rw [responsesSound_iff] at hs ⊢
  refine ⟨hs.1.reserved (ne_ready_of_free hfree), fun entry q tag hw => ?_⟩
  obtain ⟨rfl, _⟩ := RestartPhase.waiting.inj hw
  exact ⟨by simp [restartOp], rfl⟩

theorem restartOff_sameAnswers (s : State) : SameAnswers s s.restartOff := by
  have hnotices := SameAnswers.of_frame (restartNotices_frame s)
  have haborted : SameAnswers s.restartNotices s.restartAborted :=
    SameAnswers.foldl (fun v n => (setQueue_sameAnswers v n []).trans (completeAll_sameAnswers _ _ _ _)) allSlots _
  exact ((hnotices.trans haborted).trans (SameAnswers.of_frame (restartAborted_frame s))).trans
    (SameAnswers.of_frame (restartOff_frame s))

/-- The completion answers from the entry that was reserved (R163, R183). -/
theorem restartRest_answers {c : Taken} (hw : s.restart = .waiting c.entry c.requester c.tag) :
    KeepsAnswers s (s.restartRest c) := by
  refine ⟨fun hs => ?_, id⟩
  rw [responsesSound_iff] at hs ⊢
  obtain ⟨hmatch, hrestart⟩ := hs
  obtain ⟨hres, _⟩ := hrestart _ _ _ hw
  have hanswers : (s.restartRest c).answers = s.answers ++ [c.entry] := by
    rw [State.answers, restartRest_responses, List.filterMap_append]
    rfl
  rw [hanswers]
  exact ⟨hmatch.answered (ne_ready_of_reserved hres) _, fun _ _ _ h => RestartPhase.noConfusion h⟩

theorem completeRestart_answers {c : Taken} (hw : s.restart = .waiting c.entry c.requester c.tag) :
    KeepsAnswers s (s.completeRestart c) :=
  (restartOff_sameAnswers s).keeps.trans (restartRest_answers ((restartOff_sameAnswers s).restart.trans hw))

/-! ## The link -/

/-- A response has been sent: its entry is free, and it is the entry of no RESTART that waits (R182). -/
theorem responseSent_answers (s : State) : KeepsAnswers s s.responseSent := by
  cases hr : s.responses with
  | nil =>
    have hsent : s.responseSent = { s with transmitter := .idle, responses := [] } := by simp [State.responseSent, hr]
    rw [hsent]
    exact SameAnswers.keeps ⟨rfl, by simp [State.answers, hr], rfl, rfl, rfl⟩
  | cons item rest =>
    cases item with
    | record r =>
      have hsent : s.responseSent = { s with transmitter := .idle, responses := rest } := by simp [State.responseSent, hr]
      rw [hsent]
      exact SameAnswers.keeps ⟨rfl, by rw [State.answers, State.answers, hr]; rfl, rfl, rfl, rfl⟩
    | immediate i =>
      have hsent : s.responseSent =
          { s with transmitter := .idle, responses := rest, immediate := s.immediate.set i .free } := by
        simp [State.responseSent, hr]
      have hanswers : s.answers = i :: rest.filterMap ResponseItem.entry? := by
        rw [State.answers, hr]; rfl
      refine ⟨fun hs => ?_, by rw [hsent]; exact id⟩
      rw [responsesSound_iff] at hs ⊢
      obtain ⟨hmatch, hrestart⟩ := hs
      rw [hanswers] at hmatch
      rw [hsent]
      refine ⟨hmatch.sent, fun entry q tag hw => ?_⟩
      obtain ⟨hres, htaking⟩ := hrestart entry q tag hw
      have hne : i.val ≠ entry.val := fun he => by
        obtain ⟨r, hready⟩ := (hmatch.1 i).mpr List.mem_cons_self
        exact ne_ready_of_reserved hres r (Fin.ext he ▸ hready)
      exact ⟨by simpa [hne] using hres, htaking⟩

theorem raiseLink_sameAnswers (s : State) (k : NoticeKind) : SameAnswers s (s.raiseLink k) :=
  SameAnswers.of_frame (raiseLink_frame s k)

theorem receptionEnd_sameAnswers (s : State) (bytes : List Byte) : SameAnswers s (s.receptionEnd bytes) := by
  have hreceiver : ∀ r, SameAnswers s { s with receiver := r } := fun _ => ⟨rfl, rfl, rfl, rfl, rfl⟩
  unfold State.receptionEnd
  split
  · exact (hreceiver _).trans (raiseLink_sameAnswers _ _)
  · dsimp only
    split
    · exact (hreceiver .idle).trans (raiseLink_sameAnswers _ _)
    · refine (hreceiver .idle).trans ?_
      unfold State.arrive
      exact SameAnswers.ite (fun _ => ⟨rfl, rfl, rfl, rfl, rfl⟩) (fun _ => raiseLink_sameAnswers _ _)

theorem choose_sameAnswers (s : State) : SameAnswers s s.choose := by
  unfold State.choose
  split
  · exact SameAnswers.refl s
  · exact ⟨rfl, rfl, rfl, rfl, rfl⟩
  · exact ⟨rfl, rfl, rfl, rfl, rfl⟩
  · exact SameAnswers.ite (fun _ => ⟨rfl, rfl, rfl, rfl, rfl⟩) (fun _ => ⟨rfl, rfl, rfl, rfl, rfl⟩)

theorem noticeSent_sameAnswers (s : State) : SameAnswers s s.noticeSent := by
  dsimp only [State.noticeSent]
  exact SameAnswers.ite (fun _ => ⟨rfl, rfl, rfl, rfl, rfl⟩) (fun _ => ⟨rfl, rfl, rfl, rfl, rfl⟩)

theorem takeSupplyLevel_sameAnswers (s : State) : SameAnswers s s.takeSupplyLevel := by
  unfold State.takeSupplyLevel
  refine SameAnswers.ite (fun _ => SameAnswers.refl s) (fun _ => ?_)
  exact SameAnswers.trans (t := { s with supplyTaken := s.supplyLowPin }) ⟨rfl, rfl, rfl, rfl, rfl⟩
    (SameAnswers.of_frame (limitSet_frame _ _ _))

/-! ## The commands with an outcome of their own shape -/

theorem execColdReset_answers {cause : ResetCause} (h : execColdReset cause s = .next t) : KeepsAnswers s t := by
  injection h with h
  subst h
  exact ⟨fun _ => reset_responsesSound, fun _ => reset_unitsDistinct⟩

theorem execStart_answers (h : execStart s = .next t) : SameAnswers s t := by
  injection h with h
  subst h
  split
  · exact SameAnswers.refl s
  · exact ⟨rfl, rfl, rfl, rfl, rfl⟩

theorem execSupplyLowChange_answers {b : Bool} (h : execSupplyLowChange b s = .next t) : SameAnswers s t := by
  have hpin : ∀ d, SameAnswers s { s with supplyLowPin := b, debounce := d } := fun d => SameAnswers.of_frame (setPin_frame s b d)
  refine quietEvent_sameAnswers h ?_
  exact SameAnswers.ite (fun _ => SameAnswers.ite (fun _ => (hpin none).trans (takeSupplyLevel_sameAnswers _)) (fun _ => hpin _))
    (fun _ => hpin s.debounce)

theorem execSupplyLowDebounceExpiry_answers (h : execSupplyLowDebounceExpiry s = .next t) : SameAnswers s t :=
  quietEvent_sameAnswers h (SameAnswers.trans (t := { s with debounce := none }) ⟨rfl, rfl, rfl, rfl, rfl⟩
    (takeSupplyLevel_sameAnswers _))

theorem execAtnChange_answers {active : Bool} (h : execAtnChange n active s = .next t) : SameAnswers s t := by
  have hpin : SameAnswers s { s with atnLines := s.atnLines.set n active } := SameAnswers.of_frame (setAtnLines_frame s _)
  unfold execAtnChange at h
  split at h
  · injection h with h; subst h; exact SameAnswers.refl s
  · split at h
    · injection h with h; subst h
      exact (hpin.trans (lineChange_sameAnswers _ n active)).trans (finish_sameAnswers _ _)
    · injection h with h; subst h; exact hpin

theorem execAttentionHoldoffExpiry_answers (h : execAttentionHoldoffExpiry n s = .next t) : SameAnswers s t :=
  event_sameAnswers h (SameAnswers.ite
    (fun _ => ((setAtt_sameAnswers s n _).trans (setAtt_sameAnswers _ n _)).trans (SameAnswers.of_frame (startAction_frame _ n)))
    (fun _ => (setAtt_sameAnswers s n _).trans (setAtt_sameAnswers _ n _)))

theorem execFrameReceptionStart_answers (h : execFrameReceptionStart s = .next t) : SameAnswers s t := by
  refine quietEvent_sameAnswers h ?_
  split
  · exact ⟨rfl, rfl, rfl, rfl, rfl⟩
  · exact raiseLink_sameAnswers s _

theorem execLimitCountdownExpiry_answers (h : execLimitCountdownExpiry n s = .next t) : SameAnswers s t :=
  event_sameAnswers h (SameAnswers.ite (fun _ => setSlot_sameAnswers s n _) (fun _ => enterFaulted_sameAnswers s n _))

theorem execLifetimeExpiry_answers {r : Requester} {tag : Byte} (h : execLifetimeExpiry r tag s = .next t) :
    SameAnswers s t := by
  unfold execLifetimeExpiry at h
  split at h
  · injection h with h; subst h; exact SameAnswers.refl s
  · exact event_sameAnswers h (((setQueue_sameAnswers s _ _).trans (handOff_sameAnswers _ _ _ _ _)).trans
      (SameAnswers.of_frame (queueLeft_frame _ _)))

theorem execResponseTimeoutExpiry_answers (h : execResponseTimeoutExpiry s = .next t) : SameAnswers s t := by
  unfold execResponseTimeoutExpiry at h
  split at h
  · injection h with h; subst h; exact SameAnswers.refl s
  · refine event_sameAnswers h ?_
    split
    · exact SameAnswers.refl s
    · exact attemptEnd_sameAnswers s _ _
    · exact attemptEnd_sameAnswers s _ _

theorem execReplyEnd_answers {bytes : List Byte} (h : execReplyEnd bytes s = .next t) : SameAnswers s t := by
  unfold execReplyEnd at h
  split at h
  · injection h with h; subst h; exact SameAnswers.refl s
  · exact event_sameAnswers h (attemptEnd_sameAnswers s _ _)

theorem execTransmissionEnd_answers (h : execTransmissionEnd s = .next t) : KeepsAnswers s t := by
  injection h with h
  subst h
  split
  · exact (responseSent_answers s).trans (finish_sameAnswers s _).keeps
  · exact (noticeSent_sameAnswers s).keeps
  · exact KeepsAnswers.refl s

theorem execRestartCompletion_answers (h : execRestartCompletion s = .next t) : KeepsAnswers s t := by
  injection h with h
  subst h
  split
  · rename_i hw
    exact completeRestart_answers hw
  · exact KeepsAnswers.refl s

theorem execTimeBaseAdvance_answers (h : execTimeBaseAdvance s = .next t) : SameAnswers s t :=
  quietEvent_sameAnswers h ⟨rfl, rfl, rfl, rfl, rfl⟩

theorem execFrameArrival_answers {bytes : List Byte} (h : execFrameArrival bytes s = .next t) : SameAnswers s t :=
  quietEvent_sameAnswers h (receptionEnd_sameAnswers s bytes)

theorem execCommandSent_answers (h : execCommandSent s = .next t) : SameAnswers s t :=
  quietEvent_sameAnswers h ⟨rfl, rfl, rfl, rfl, rfl⟩

theorem execReplyStart_answers (h : execReplyStart s = .next t) : SameAnswers s t :=
  quietEvent_sameAnswers h ⟨rfl, rfl, rfl, rfl, rfl⟩

theorem execOutputChoice_answers (h : execOutputChoice s = .next t) : SameAnswers s t :=
  quietEvent_sameAnswers h (choose_sameAnswers s)

theorem execReplyByteReceived_answers (h : execReplyByteReceived s = .next t) : SameAnswers s t :=
  quietEvent_sameAnswers h ⟨rfl, rfl, rfl, rfl, rfl⟩

theorem execEvaluation_answers (h : execEvaluation s = .next t) : SameAnswers s t :=
  event_sameAnswers h ((SameAnswers.of_frame (setEvaluationDue_frame s false)).trans (evaluate_sameAnswers _ _))

theorem execSelectionPass_answers (h : execSelectionPass s = .next t) : SameAnswers s t :=
  event_sameAnswers h ((SameAnswers.of_frame (setPassDue_frame s false)).trans (selectVictims_sameAnswers _ _))

theorem execStepCountdownExpiry_answers (h : execStepCountdownExpiry n s = .next t) : SameAnswers s t :=
  event_sameAnswers h ((setSlot_sameAnswers s n _).trans (SameAnswers.of_frame (askControl_frame _ n _)))

theorem execIdleHoldExpiry_answers (h : execIdleHoldExpiry n s = .next t) : SameAnswers s t :=
  event_sameAnswers h (SameAnswers.of_frame (startDrain_frame s n _ _))

theorem execChainSelection_answers (h : execChainSelection s = .next t) : SameAnswers s t :=
  event_sameAnswers h (select_sameAnswers s)

/-! ## Every command, every step -/

theorem exec_answers (c : Instr) (h : exec c s = .next t) : KeepsAnswers s t := by
  cases c with
  | coldReset => exact execColdReset_answers h
  | start => exact (execStart_answers h).keeps
  | timeBaseAdvance => exact (execTimeBaseAdvance_answers h).keeps
  | supplyLowChange => exact (execSupplyLowChange_answers h).keeps
  | supplyLowDebounceExpiry => exact (execSupplyLowDebounceExpiry_answers h).keeps
  | atnChange => exact (execAtnChange_answers h).keeps
  | attentionHoldoffExpiry => exact (execAttentionHoldoffExpiry_answers h).keeps
  | frameArrival => exact (execFrameArrival_answers h).keeps
  | read => exact admitData_answers.take h
  | write => exact admitData_answers.take h
  | writePosted => exact admitData_answers.take h
  | readEntry => exact readEntryOp_answers.manage.take h
  | writeEntryUnit => exact writeUnitOp_answers.manage.take h
  | writeEntryRequester => exact writeRequesterOp_answers.manage.take h
  | writeEntryProfile => exact writeProfileOp_answers.manage.take h
  | writeEntryChain => exact writeChainOp_answers.manage.take h
  | writeEntryBudget => exact writeBudgetOp_answers.manage.take h
  | findUnit => exact findUnitOp_answers.manage.take h
  | readSlot => exact respond_answers.withSlot.manage.take h
  | readQueue => exact respond_answers.withSlot.manage.take h
  | readBudget => exact respond_answers.manage.take h
  | slotWake => exact slotWakeOp_answers.manage.take h
  | slotRest => exact slotRestOp_answers.withSlot.manage.take h
  | slotOff => exact slotOffOp_answers.withSlot.manage.take h
  | pin => exact pinOp_answers.withSlot.manage.take h
  | unpin => exact unpinOp_answers.withSlot.manage.take h
  | slotClear => exact slotClearOp_answers.withSlot.manage.take h
  | readFault => exact readFaultOp_answers.manage.take h
  | clearFault => exact clearFaultOp_answers.manage.take h
  | restart => exact restartOp_answers.manage.take h
  | restartCompletion => exact execRestartCompletion_answers h
  | evaluation => exact (execEvaluation_answers h).keeps
  | selectionPass => exact (execSelectionPass_answers h).keeps
  | stepCountdownExpiry => exact (execStepCountdownExpiry_answers h).keeps
  | limitCountdownExpiry => exact (execLimitCountdownExpiry_answers h).keeps
  | idleHoldExpiry => exact (execIdleHoldExpiry_answers h).keeps
  | lifetimeExpiry => exact (execLifetimeExpiry_answers h).keeps
  | chainSelection => exact (execChainSelection_answers h).keeps
  | commandSent => exact (execCommandSent_answers h).keeps
  | replyStart => exact (execReplyStart_answers h).keeps
  | responseTimeoutExpiry => exact (execResponseTimeoutExpiry_answers h).keeps
  | replyEnd => exact (execReplyEnd_answers h).keeps
  | outputChoice => exact (execOutputChoice_answers h).keeps
  | transmissionEnd => exact execTransmissionEnd_answers h
  | frameReceptionStart => exact (execFrameReceptionStart_answers h).keeps
  | replyByteReceived => exact (execReplyByteReceived_answers h).keeps

theorem step_answers (h : step s = .next t) : KeepsAnswers s t := by
  unfold step at h
  split at h
  · injection h with h; subst h; exact KeepsAnswers.refl s
  · rename_i i rest _
    exact (SameAnswers.of_frame (setPending_frame s rest)).keeps.trans (exec_answers i h)

/-- Settles O59: the relation `KeepsAnswers` of every command, by its cases. -/
theorem stepKeepsResponsesAndUnits : Obligations.StepKeepsResponsesAndUnits := by
  unfold Obligations.StepKeepsResponsesAndUnits
  intro s t h
  exact ⟨(step_answers h).responses, (step_answers h).units⟩

end Sys2Proof.Machine
end

section
/-! The entry layouts and their readings: bytes, words, flags and codes, and the five tables (R133, R134, R137, R140, R141, R149,
R187). -/

set_option Elab.async false

namespace Sys2Proof.Machine

/-! ## Bytes, words and slots -/

theorem byteOf_value {v : Nat} (h : v < 256) : (byteOf v).toNat = v := by
  rw [byteOf, BitVec.toNat_ofNat, Nat.mod_eq_of_lt h]

@[simp] theorem byteOf_of_toNat (b : Byte) : byteOf b.toNat = b := BitVec.ofNat_toNat 8 b

theorem readWord16_lt (hi lo : Byte) : readWord16 hi lo < 65536 := by
  have h1 := hi.isLt
  have h2 := lo.isLt
  unfold readWord16
  omega

theorem readWord16_word {v : Nat} (h : v < 65536) : readWord16 (byteOf (v / 256)) (byteOf v) = v := by
  simp only [readWord16, byteOf, BitVec.toNat_ofNat]
  omega

@[simp] theorem word16_readWord16 (hi lo : Byte) : word16 (readWord16 hi lo) = [hi, lo] := by
  have h1 := hi.isLt
  have h2 := lo.isLt
  have hhi : byteOf (readWord16 hi lo / 256) = hi := by
    rw [show readWord16 hi lo / 256 = hi.toNat by unfold readWord16; omega, byteOf_of_toNat]
  have hlo : byteOf (readWord16 hi lo) = lo := by
    apply BitVec.eq_of_toNat_eq
    simp only [byteOf, BitVec.toNat_ofNat, readWord16]
    omega
  rw [word16, hhi, hlo]

theorem slotOfByte_eq_some {b : Byte} {k : Slot} : slotOfByte b = some k ↔ b = byteOf k.val := by
  have hk : (byteOf k.val).toNat = k.val := byteOf_value (by omega)
  constructor
  · intro h
    unfold slotOfByte at h
    split at h
    · rw [← Option.some.inj h, byteOf_of_toNat]
    · exact absurd h (by simp)
  · rintro rfl
    simp [slotOfByte, hk]

/-! ## Codes -/

theorem actionOf_eq_some {b : Byte} {a : AttentionAction} : actionOf b = some a ↔ b = actionCode a := by
  constructor
  · intro h
    unfold actionOf at h
    split_ifs at h with h0 h1 h2 h3 <;> (obtain rfl := Option.some.inj h; assumption)
  · rintro rfl
    cases a <;> rfl

theorem gateOf_eq_some {b : Byte} {g : Gate} : gateOf b = some g ↔ b = gateCode g := by
  constructor
  · intro h
    unfold gateOf at h
    split_ifs at h with h0 h1 h2 <;> (obtain rfl := Option.some.inj h; assumption)
  · rintro rfl
    cases g <;> rfl

@[simp] theorem levelOfBit_beq (l : Level) : levelOfBit (l == .urgent) = l := by cases l <;> rfl

@[simp] theorem levelOfBit_urgent (b : Bool) : (levelOfBit b == .urgent) = b := by cases b <;> rfl

/-! ## Flag bytes -/

/-- A byte of five flags, from bit 0 up (R187). -/
def flagByte (a b c d e : Bool) : Byte :=
  byteOf (flagBit 0 a + flagBit 1 b + flagBit 2 c + flagBit 3 d + flagBit 4 e)

theorem flagByte_reads : ∀ a b c d e : Bool, (flagByte a b c d e).toNat < 32 ∧ (flagByte a b c d e).getLsbD 0 = a ∧
    (flagByte a b c d e).getLsbD 1 = b ∧ (flagByte a b c d e).getLsbD 2 = c ∧ (flagByte a b c d e).getLsbD 3 = d ∧
    (flagByte a b c d e).getLsbD 4 = e := by decide

@[simp] theorem flagByte_lt (a b c d e : Bool) : (flagByte a b c d e).toNat < 32 := (flagByte_reads a b c d e).1
@[simp] theorem flagByte_bit0 (a b c d e : Bool) : (flagByte a b c d e).getLsbD 0 = a := (flagByte_reads a b c d e).2.1
@[simp] theorem flagByte_bit1 (a b c d e : Bool) : (flagByte a b c d e).getLsbD 1 = b := (flagByte_reads a b c d e).2.2.1
@[simp] theorem flagByte_bit2 (a b c d e : Bool) : (flagByte a b c d e).getLsbD 2 = c := (flagByte_reads a b c d e).2.2.2.1
@[simp] theorem flagByte_bit3 (a b c d e : Bool) : (flagByte a b c d e).getLsbD 3 = d := (flagByte_reads a b c d e).2.2.2.2.1
@[simp] theorem flagByte_bit4 (a b c d e : Bool) : (flagByte a b c d e).getLsbD 4 = e := (flagByte_reads a b c d e).2.2.2.2.2

theorem flagByte_testBit : ∀ n : Fin 32,
    flagByte (n.val.testBit 0) (n.val.testBit 1) (n.val.testBit 2) (n.val.testBit 3) (n.val.testBit 4) = byteOf n.val := by
  decide

/-- A byte without other flags is the byte of its flags. -/
theorem flagByte_bits {f : Byte} (h : f.toNat < 32) :
    flagByte (f.getLsbD 0) (f.getLsbD 1) (f.getLsbD 2) (f.getLsbD 3) (f.getLsbD 4) = f := by
  have hbits := flagByte_testBit ⟨f.toNat, h⟩
  rwa [byteOf_of_toNat] at hbits

/-- Three flags are five with two clear. -/
theorem flagByte_three : ∀ a b c : Bool, byteOf (flagBit 0 a + flagBit 1 b + flagBit 2 c) = flagByte a b c false false ∧
    (flagByte a b c false false).toNat < 8 := by decide

theorem high_flags_clear {f : Byte} (h : f.toNat < 8) : f.getLsbD 3 = false ∧ f.getLsbD 4 = false :=
  ⟨Nat.testBit_lt_two_pow (by omega), Nat.testBit_lt_two_pow (by omega)⟩

/-! ## Unit Map entries -/

theorem unitInRange_iff (e : UnitEntry) : unitInRange e = true ↔ e.number < 65536 ∧ 1 ≤ e.length ∧ e.base + e.length ≤ 65536 ∧
    e.defaultLifetime < 65536 ∧ ¬ (e.valid = true ∧ e.number = 0) := by
  simp only [unitInRange, Bool.and_eq_true, decide_eq_true_eq, Bool.not_eq_true', Bool.and_eq_false_iff, beq_eq_false_iff_ne,
    not_and_or, Bool.not_eq_true, Nat.lt_succ_iff, and_assoc, ne_eq]

theorem layUnitEntry_eq (e : UnitEntry) : layUnitEntry e =
    [flagByte e.valid (e.level == .urgent) e.read e.write e.post] ++ word16 e.number ++ [byteOf e.slot.val] ++ word16 e.base ++
      word16 (e.length - 1) ++ [e.mask] ++ word16 e.defaultLifetime := rfl

/-- An entry in range is read back from its layout (R133, R134, R187). -/
theorem readUnitEntry_lay {e : UnitEntry} (h : unitInRange e = true) : readUnitEntry (layUnitEntry e) = some e := by
  obtain ⟨hnumber, hlength, hend, hlifetime, hzero⟩ := (unitInRange_iff e).mp h
  have hslot := slotOfByte_eq_some.mpr (rfl : byteOf e.slot.val = _)
  have hback : e.length - 1 + 1 = e.length := by omega
  rw [layUnitEntry_eq]
  simp only [word16, List.cons_append, List.nil_append, readUnitEntry, hslot, readWord16_word hnumber,
    readWord16_word hlifetime, readWord16_word (show e.base < 65536 by omega),
    readWord16_word (show e.length - 1 < 65536 by omega), hback, flagByte_lt, flagByte_bit0, flagByte_bit1, flagByte_bit2,
    flagByte_bit3, flagByte_bit4, levelOfBit_beq]
  exact if_pos ⟨trivial, hend, hzero⟩

/-- What is read of a Unit Map entry is in range, and its layout is the bytes (R134, R187). -/
theorem readUnitEntry_some {b : List Byte} {e : UnitEntry} (h : readUnitEntry b = some e) :
    unitInRange e = true ∧ layUnitEntry e = b := by
  unfold readUnitEntry at h
  split at h
  · split at h
    · exact absurd h (by simp)
    · rename_i hslot
      rw [Option.ite_none_right_eq_some] at h
      obtain ⟨⟨hflags, hend, hzero⟩, he⟩ := h
      obtain rfl := Option.some.inj he
      refine ⟨(unitInRange_iff _).mpr ⟨readWord16_lt _ _, Nat.le_add_left _ _, hend, readWord16_lt _ _, hzero⟩, ?_⟩
      rw [slotOfByte_eq_some.mp hslot]
      simp only [layUnitEntry_eq, levelOfBit_urgent, flagByte_bits hflags, word16_readWord16, Nat.add_sub_cancel,
        List.cons_append, List.nil_append]
  · exact absurd h (by simp)

/-! ## Requester Table entries -/

theorem layRequesterEntry_eq (e : RequesterEntry) :
    layRequesterEntry e = [flagByte e.enabled e.manage (e.ceiling == .urgent) false false, byteOf e.limit] := by
  rw [layRequesterEntry, (flagByte_three _ _ _).1]

theorem readRequesterEntry_lay {e : RequesterEntry} (h : e.limit ≤ 32) : readRequesterEntry (layRequesterEntry e) = some e := by
  have hflags := (flagByte_three e.enabled e.manage (e.ceiling == .urgent)).2
  rw [layRequesterEntry_eq]
  simp only [readRequesterEntry, hflags, byteOf_value (show e.limit < 256 by omega), flagByte_bit0, flagByte_bit1, flagByte_bit2,
    levelOfBit_beq]
  exact if_pos ⟨trivial, h⟩

theorem readRequesterEntry_some {b : List Byte} {e : RequesterEntry} (h : readRequesterEntry b = some e) :
    e.limit ≤ 32 ∧ layRequesterEntry e = b := by
  unfold readRequesterEntry at h
  split at h
  · rename_i flags limit
    rw [Option.ite_none_right_eq_some] at h
    obtain ⟨⟨hflags, hlimit⟩, he⟩ := h
    obtain rfl := Option.some.inj he
    have hbits := flagByte_bits (show flags.toNat < 32 by omega)
    rw [(high_flags_clear hflags).1, (high_flags_clear hflags).2] at hbits
    refine ⟨hlimit, ?_⟩
    rw [layRequesterEntry_eq, levelOfBit_urgent, hbits, byteOf_of_toNat]
  · exact absurd h (by simp)

/-! ## Slot profiles -/

@[simp] theorem restMode_of_flag (m : RestMode) : (if (m == .off) = true then RestMode.off else .slumber) = m := by cases m <;> rfl

@[simp] theorem restMode_flag (b : Bool) : ((if b = true then RestMode.off else .slumber) == .off) = b := by cases b <;> rfl

@[simp] theorem sense_of_flag (m : Sense) : (if (m == .level) = true then Sense.level else .edge) = m := by cases m <;> rfl

@[simp] theorem sense_flag (b : Bool) : ((if b = true then Sense.level else .edge) == .level) = b := by cases b <;> rfl

theorem layProfile_eq (p : Profile) : layProfile p =
    [flagByte p.power.present (p.power.restMode == .off) (p.sense == .level) (p.attentionLevel == .urgent) p.report,
      actionCode p.action, byteOf p.power.awake, byteOf p.power.standby] ++
      word16 p.power.moduleType ++ word16 p.power.powerUpDelay ++ word16 p.power.powerUpTimeout ++ [byteOf p.power.wakeDelay] ++
      word16 p.power.wakeTimeout ++ word16 p.idleHold ++ [byteOf p.queueLimit] ++ word16 p.fetchOffset ++
      [byteOf p.fetchLength, byteOf p.holdoff] := rfl

/-- Every field of a profile in range fits its bytes (R140, R187). -/
theorem profileInRange_fits {p : Profile} (h : profileInRange p = true) :
    (p.power.awake < 256 ∧ p.power.standby < 256 ∧ p.power.wakeDelay < 256 ∧ p.queueLimit < 256 ∧ p.fetchLength < 256 ∧
      p.holdoff < 256) ∧
    p.power.moduleType < 65536 ∧ p.power.powerUpDelay < 65536 ∧ p.power.powerUpTimeout < 65536 ∧ p.power.wakeTimeout < 65536 ∧
      p.idleHold < 65536 ∧ p.fetchOffset < 65536 := by
  simp only [profileInRange, Bool.and_eq_true, decide_eq_true_eq] at h
  omega

theorem readProfile_lay {p : Profile} (h : profileInRange p = true) : readProfile (layProfile p) = some p := by
  obtain ⟨⟨hawake, hstandby, hwake, hqueue, hfetch, hholdoff⟩, htype, hdelay, htimeout, hwakeTimeout, hidle, hoffset⟩ :=
    profileInRange_fits h
  have haction := actionOf_eq_some.mpr (rfl : actionCode p.action = _)
  rw [layProfile_eq]
  simp only [word16, List.cons_append, List.nil_append, readProfile, haction, byteOf_value hawake, byteOf_value hstandby,
    byteOf_value hwake, byteOf_value hqueue, byteOf_value hfetch, byteOf_value hholdoff, readWord16_word htype,
    readWord16_word hdelay, readWord16_word htimeout, readWord16_word hwakeTimeout, readWord16_word hidle,
    readWord16_word hoffset, flagByte_lt, flagByte_bit0, flagByte_bit1, flagByte_bit2, flagByte_bit3, flagByte_bit4,
    levelOfBit_beq, restMode_of_flag, sense_of_flag]
  exact if_pos ⟨trivial, h⟩

theorem readProfile_some {b : List Byte} {p : Profile} (h : readProfile b = some p) :
    profileInRange p = true ∧ layProfile p = b := by
  unfold readProfile at h
  split at h
  · split at h
    · exact absurd h (by simp)
    · rename_i haction
      rw [Option.ite_none_right_eq_some] at h
      obtain ⟨⟨hflags, hrange⟩, hp⟩ := h
      obtain rfl := Option.some.inj hp
      refine ⟨hrange, ?_⟩
      rw [actionOf_eq_some.mp haction]
      simp only [layProfile_eq, levelOfBit_urgent, restMode_flag, sense_flag, flagByte_bits hflags, word16_readWord16,
        byteOf_of_toNat, List.cons_append, List.nil_append]
  · exact absurd h (by simp)

/-! ## Chain Settings and Budget Settings -/

theorem readChainSettings_lay {v : ChainSettings} (h : chainInRange v = true) :
    readChainSettings (layChainSettings v) = some v := by
  have hfits : v.responseTimeout < 65536 ∧ v.retryLimit < 256 ∧ v.faultThreshold < 256 ∧ v.pollInterval < 256 := by
    simp only [chainInRange, Bool.and_eq_true, decide_eq_true_eq] at h
    omega
  obtain ⟨htimeout, hretry, hthreshold, hpoll⟩ := hfits
  simp only [layChainSettings, word16, List.cons_append, List.nil_append, readChainSettings, readWord16_word htimeout,
    byteOf_value hretry, byteOf_value hthreshold, byteOf_value hpoll]
  exact if_pos h

theorem readChainSettings_some {b : List Byte} {v : ChainSettings} (h : readChainSettings b = some v) :
    chainInRange v = true ∧ layChainSettings v = b := by
  unfold readChainSettings at h
  split at h
  · rw [Option.ite_none_right_eq_some] at h
    obtain ⟨hrange, hv⟩ := h
    obtain rfl := Option.some.inj hv
    refine ⟨hrange, ?_⟩
    simp only [layChainSettings, word16_readWord16, byteOf_of_toNat, List.cons_append, List.nil_append]
  · exact absurd h (by simp)

theorem readBudgetSettings_lay {v : BudgetSettings} (h : budgetInRange v = true) :
    readBudgetSettings (layBudgetSettings v) = some v := by
  have hfits : v.normalLimit < 65536 ∧ v.reducedLimit < 65536 ∧ v.bypassAllowance < 256 ∧ v.debounce < 256 := by
    simp only [budgetInRange, Bool.and_eq_true, decide_eq_true_eq] at h
    omega
  obtain ⟨hnormal, hreduced, hbypass, hdebounce⟩ := hfits
  have hgate := gateOf_eq_some.mpr (rfl : gateCode v.gate = _)
  simp only [layBudgetSettings, word16, List.cons_append, List.nil_append, readBudgetSettings, hgate, readWord16_word hnormal,
    readWord16_word hreduced, byteOf_value hbypass, byteOf_value hdebounce]
  exact if_pos h

theorem readBudgetSettings_some {b : List Byte} {v : BudgetSettings} (h : readBudgetSettings b = some v) :
    budgetInRange v = true ∧ layBudgetSettings v = b := by
  unfold readBudgetSettings at h
  split at h
  · split at h
    · exact absurd h (by simp)
    · rename_i hgate
      rw [Option.ite_none_right_eq_some] at h
      obtain ⟨hrange, hv⟩ := h
      obtain rfl := Option.some.inj hv
      refine ⟨hrange, ?_⟩
      rw [gateOf_eq_some.mp hgate]
      simp only [layBudgetSettings, word16_readWord16, byteOf_of_toNat, List.cons_append, List.nil_append]
  · exact absurd h (by simp)

/-- Settles O23: for each table its reading undoes its layout, and its layout the reading. -/
theorem entryLayoutsRoundTrip : Obligations.EntryLayoutsRoundTrip :=
  ⟨fun _ => readUnitEntry_lay, fun _ _ => readUnitEntry_some, fun _ => readRequesterEntry_lay, fun _ _ => readRequesterEntry_some,
    fun _ => readProfile_lay, fun _ _ => readProfile_some, fun _ => readChainSettings_lay, fun _ _ => readChainSettings_some,
    fun _ => readBudgetSettings_lay, fun _ _ => readBudgetSettings_some⟩

end Sys2Proof.Machine
end

section
/-! READ ENTRY, and the writes of the Unit Map, of the Requester Table and of the slot profiles (R132 to R148). -/

set_option Elab.async false

namespace Sys2Proof.Machine

variable {s : State} {n : Slot} {c : Taken} {i : Nat} {bytes : List Byte}

/-! ## READ ENTRY (R148) -/

theorem readEntryOp_some {tb : Table} {entry : List Byte} (h : s.entryContents tb i = some entry) :
    readEntryOp c (tb, i) s = s.respond c .ok entry := by
  simp [readEntryOp, h]

theorem readEntryOp_none {tb : Table} (h : s.entryContents tb i = none) :
    readEntryOp c (tb, i) s = s.respond c .badIndex [] := by
  simp [readEntryOp, h]

/-- What READ ENTRY answers for a table of `k` entries, of which `lay` gives the bytes. -/
theorem readEntryOp_indexed {α : Type} {k : Nat} {tb : Table} {entries : Vector α k} {lay : α → List Byte}
    (h : s.entryContents tb i = entries[i]?.map lay) : readEntryOp c (tb, i) s =
      if hi : i < k then s.respond c .ok (lay entries[i]) else s.respond c .badIndex [] := by
  split
  · exact readEntryOp_some (by rw [h, Vector.getElem?_eq_getElem ‹_›, Option.map_some])
  · exact readEntryOp_none (by rw [h, Vector.getElem?_eq_none (by omega), Option.map_none])

/-- What READ ENTRY answers for a table of one entry. -/
theorem readEntryOp_single {tb : Table} {entry : List Byte} (h : s.entryContents tb i = if i = 0 then some entry else none) :
    readEntryOp c (tb, i) s = if i = 0 then s.respond c .ok entry else s.respond c .badIndex [] := by
  split
  · exact readEntryOp_some (by rw [h, if_pos ‹_›])
  · exact readEntryOp_none (by rw [h, if_neg ‹_›])

/-- Settles O17: the contents of each table's entry, on the state without the frame. -/
theorem readEntryReturnsLayout : Obligations.ReadEntryReturnsLayout := by
  intro tb i frame rest c s hdue hkind hform hman
  have hexec : exec .readEntry s = .next (readEntryOp c (tb, i) { s with ingress := rest }) :=
    take_managed s hdue hkind _ hform hman readEntryOp
  rw [hexec]
  cases tb with
  | unit => rw [readEntryOp_indexed (entries := s.unitMap) rfl]; rfl
  | profile => rw [readEntryOp_indexed (entries := s.profiles) rfl]; rfl
  | requester => rw [readEntryOp_indexed (entries := s.requesters) rfl]; rfl
  | chain => rw [readEntryOp_single rfl]; rfl
  | budget => rw [readEntryOp_single rfl]; rfl

/-! ## WRITE ENTRY of the Unit Map (R134, R136) -/

theorem writeUnitOp_badIndex (h : 128 ≤ i) : writeUnitOp c (i, bytes) s = s.respond c .badIndex [] :=
  dif_neg (Nat.not_lt.mpr h)

theorem writeUnitOp_badValue (h : i < 128) (hb : readUnitEntry bytes = none) :
    writeUnitOp c (i, bytes) s = s.respond c .badValue [] := by
  simp [writeUnitOp, h, hb]

theorem writeUnitOp_duplicate (h : i < 128) {e : UnitEntry} (hb : readUnitEntry bytes = some e)
    (ht : s.numberTaken i e = true) : writeUnitOp c (i, bytes) s = s.respond c .duplicate [] := by
  simp [writeUnitOp, h, hb, ht]

theorem writeUnitOp_stored (h : i < 128) {e : UnitEntry} (hb : readUnitEntry bytes = some e)
    (ht : s.numberTaken i e = false) :
    writeUnitOp c (i, bytes) s = ({ s with unitMap := s.unitMap.set i e } : State).respond c .ok [] := by
  simp [writeUnitOp, h, hb, ht]

/-- Settles O18: the four outcomes of `writeUnitOp`; the last touches the Unit Map and the answer alone. -/
theorem writeUnitEntryChecksAndStores : Obligations.WriteUnitEntryChecksAndStores := by
  intro i bytes frame rest c s hdue hkind hform hman
  have hexec : exec .writeEntryUnit s = .next (writeUnitOp c (i, bytes) { s with ingress := rest }) :=
    take_managed s hdue hkind _ hform hman writeUnitOp
  rw [hexec]
  refine ⟨fun hi => ?_, fun hi => ⟨fun hb => ?_, fun e hb => ⟨fun ht => ?_, fun ht => ?_⟩⟩⟩
  · rw [writeUnitOp_badIndex hi, respond_answered]
  · rw [writeUnitOp_badValue hi hb, respond_answered]
  · have htaken : State.numberTaken { s with ingress := rest } i e = true := (numberTaken_iff s i e).mpr ht
    rw [writeUnitOp_duplicate hi hb htaken, respond_answered]
  · have hfree : State.numberTaken { s with ingress := rest } i e = false :=
      Bool.eq_false_iff.mpr (fun h => ht ((numberTaken_iff s i e).mp h))
    rw [writeUnitOp_stored hi hb hfree]
    rfl

/-! ## WRITE ENTRY of the Requester Table (R138, R139) -/

theorem writeRequesterOp_badIndex (h : 8 ≤ i) : writeRequesterOp c (i, bytes) s = s.respond c .badIndex [] :=
  dif_neg (Nat.not_lt.mpr h)

theorem writeRequesterOp_badValue (h : i < 8) (hb : readRequesterEntry bytes = none) :
    writeRequesterOp c (i, bytes) s = s.respond c .badValue [] := by
  simp [writeRequesterOp, h, hb]

/-- A limit is refused where it is a new one below the live count (R138). -/
theorem writeRequesterOp_read (h : i < 8) {e : RequesterEntry} (hb : readRequesterEntry bytes = some e) :
    writeRequesterOp c (i, bytes) s =
      if e.limit ≠ (s.requester ⟨i, h⟩).limit ∧ e.limit < s.liveCount ⟨i, h⟩ then s.respond c .inUse []
      else ({ s with requesters := s.requesters.set i e } : State).respond c .ok [] := by
  simp only [writeRequesterOp, h, hb, dif_pos]
  rfl

/-- Settles O19: the four outcomes of `writeRequesterOp`; the last touches the Requester Table and the answer alone. -/
theorem writeRequesterEntryChecksAndStores : Obligations.WriteRequesterEntryChecksAndStores := by
  intro i bytes frame rest c s hdue hkind hform hman
  have hexec : exec .writeEntryRequester s = .next (writeRequesterOp c (i, bytes) { s with ingress := rest }) :=
    take_managed s hdue hkind _ hform hman writeRequesterOp
  rw [hexec]
  refine ⟨fun hi => ?_, fun hi => ⟨fun hb => ?_, fun e hb => ⟨fun hnew hbelow => ?_, fun hkept => ?_⟩⟩⟩
  · rw [writeRequesterOp_badIndex hi, respond_answered]
  · rw [writeRequesterOp_badValue hi hb, respond_answered]
  · rw [writeRequesterOp_read hi hb, if_pos ⟨hnew, hbelow⟩, respond_answered]
  · have haccepted : ¬ (e.limit ≠ (s.requester ⟨i, hi⟩).limit ∧ e.limit < s.liveCount ⟨i, hi⟩) := by
      rintro ⟨hnew, hbelow⟩
      exact hkept.elim hnew (Nat.not_le.mpr hbelow)
    rw [writeRequesterOp_read hi hb]
    exact congrArg _ (if_neg haccepted)

/-! ## WRITE ENTRY of a slot profile (R141, R142, R144) -/

theorem writeProfileOp_badIndex (h : 24 ≤ i) : writeProfileOp c (i, bytes) s = s.respond c .badIndex [] :=
  dif_neg (Nat.not_lt.mpr h)

theorem writeProfileOp_badValue (h : i < 24) (hb : readProfile bytes = none) :
    writeProfileOp c (i, bytes) s = s.respond c .badValue [] := by
  simp [writeProfileOp, h, hb]

/-- Changed power fields are refused where the slot has charge or work (R141). -/
theorem writeProfileOp_read (h : i < 24) {p : Profile} (hb : readProfile bytes = some p) :
    writeProfileOp c (i, bytes) s =
      if p.power ≠ (s.profile ⟨i, h⟩).power ∧ s.powerFieldsOpen ⟨i, h⟩ = false then s.respond c .inUse []
      else (s.storeProfile ⟨i, h⟩ p).respond c .ok [] := by
  simp only [writeProfileOp, h, hb, dif_pos]

/-! ### The idle hold (R144) -/

theorem idleHoldWritten_frame (s : State) (n : Slot) (old : Nat) : Unchanged [.slots] s (s.idleHoldWritten n old) := by
  unfold State.idleHoldWritten
  exact Unchanged.ite (fun _ => Unchanged.refl _ s)
    (fun _ => Unchanged.ite (fun _ => setSlot_frame s n _) (fun _ => startIdleHold_frame s n))

theorem idleHoldWritten_onlySlot (s : State) (n : Slot) (old : Nat) : OnlySlot n s (s.idleHoldWritten n old) := by
  unfold State.idleHoldWritten
  split
  · exact OnlySlot.refl n s
  · split
    · exact setSlot_onlySlot s n _
    · exact startIdleHold_onlySlot s n

theorem idleHoldWritten_same {old : Nat} (h : (s.profile n).idleHold = old) : s.idleHoldWritten n old = s := if_pos h

/-- An idle hold of 0 stops the countdown. -/
theorem idleHoldWritten_stops {old : Nat} (h : (s.profile n).idleHold ≠ old) (h0 : (s.profile n).idleHold = 0)
    (hs : (s.slot n).state = .awake) : (s.idleHoldWritten n old).slot n = { s.slot n with step := none } := by
  rw [State.idleHoldWritten, if_neg h, if_pos ⟨h0, hs⟩, stopStep_eq, setSlot_slot_self]

/-- Another idle hold is loaded where the conditions of R11 hold. -/
theorem idleHoldWritten_loads {old : Nat} (h : (s.profile n).idleHold ≠ old)
    (hd : s.idleHoldDue n (s.profile n).idleHold = true) : (s.idleHoldWritten n old).slot n =
      { s.slot n with step := some { purpose := .idleHold, ms := (s.profile n).idleHold } } := by
  have h0 : (s.profile n).idleHold ≠ 0 := ((idleHoldDue_iff s n _).mp hd).2.2.2.2.1
  rw [State.idleHoldWritten, if_neg h, if_neg (fun hk => h0 hk.1), startIdleHold_slot]
  simp [hd]

/-! ### The profile that is stored (R142) -/

/-- The profile is replaced, and nothing has acted on it yet. -/
def State.profileStored (s : State) (n : Slot) (p : Profile) : State := { s with profiles := s.profiles.set n p }

/-- The profile is replaced, and its idle hold has acted on the slot (R144). -/
def State.profileHeld (s : State) (n : Slot) (p : Profile) : State :=
  (s.profileStored n p).idleHoldWritten n (s.profile n).idleHold

theorem storeProfile_eq (s : State) (n : Slot) (p : Profile) : s.storeProfile n p =
    if p.power ≠ (s.profile n).power ∧ (s.profileHeld n p).listed n = true then (s.profileHeld n p).markEvaluation
    else s.profileHeld n p := rfl

theorem profileStored_profile (s : State) (n : Slot) (p : Profile) : (s.profileStored n p).profile n = p := by
  simp [State.profileStored, State.profile]

theorem profileStored_frame (s : State) (n : Slot) (p : Profile) : Unchanged [.profiles] s (s.profileStored n p) :=
  setProfiles_frame s _

theorem profileHeld_frame (s : State) (n : Slot) (p : Profile) : Unchanged [.profiles, .slots] s (s.profileHeld n p) :=
  (profileStored_frame s n p).andThen (idleHoldWritten_frame _ n _) (by decide) (by decide)

theorem storeProfile_held (s : State) (n : Slot) (p : Profile) :
    Unchanged [.evaluationDue] (s.profileHeld n p) (s.storeProfile n p) := by
  rw [storeProfile_eq]
  exact Unchanged.ite (fun _ => markEvaluation_frame _) (fun _ => Unchanged.refl _ _)

theorem storeProfile_frame (s : State) (n : Slot) (p : Profile) :
    Unchanged [.profiles, .slots, .evaluationDue] s (s.storeProfile n p) :=
  (profileHeld_frame s n p).andThen (storeProfile_held s n p) (by decide) (by decide)

theorem storeProfile_profiles (s : State) (n : Slot) (p : Profile) : (s.storeProfile n p).profiles = s.profiles.set n p :=
  calc (s.storeProfile n p).profiles
    _ = (s.profileHeld n p).profiles := ((storeProfile_held s n p) .profiles (by decide) : State.profiles _ = _).symm
    _ = (s.profileStored n p).profiles := ((idleHoldWritten_frame _ n _) .profiles (by decide) : State.profiles _ = _).symm

/-- Changed power fields of a listed slot make an evaluation due (R142). -/
theorem storeProfile_evaluationDue (s : State) (n : Slot) (p : Profile) : (s.storeProfile n p).evaluationDue =
    (s.evaluationDue || (decide (p.power ≠ (s.profile n).power) && s.listed n && !s.sheds)) := by
  have f := profileHeld_frame s n p
  have hdue : s.evaluationDue = (s.profileHeld n p).evaluationDue := f .evaluationDue (by decide)
  rw [storeProfile_eq, f.listed n]
  split
  · rename_i h
    rw [markEvaluation_due, ← hdue, f.sheds, h.2, decide_eq_true h.1]
    rfl
  · rename_i h
    have hnone : (decide (p.power ≠ (s.profile n).power) && s.listed n) = false := by
      rw [Bool.and_eq_false_iff, decide_eq_false_iff_not, Bool.eq_false_iff, ← not_and_or]
      exact h
    rw [hnone, ← hdue, Bool.false_and, Bool.or_false]

theorem storeProfile_slot (s : State) (n m : Slot) (p : Profile) :
    (s.storeProfile n p).slot m = ((s.profileStored n p).idleHoldWritten n (s.profile n).idleHold).slot m :=
  (storeProfile_held s n p).slot m

theorem storeProfile_slot_other {m : Slot} (h : m ≠ n) (p : Profile) : (s.storeProfile n p).slot m = s.slot m := by
  rw [storeProfile_slot, (idleHoldWritten_onlySlot _ n _ m h).1]
  rfl

theorem storeProfile_slot_same {p : Profile} (h : p.idleHold = (s.profile n).idleHold) :
    (s.storeProfile n p).slot n = s.slot n := by
  rw [storeProfile_slot, idleHoldWritten_same (by rw [profileStored_profile]; exact h)]
  rfl

theorem storeProfile_slot_stops {p : Profile} (h : p.idleHold ≠ (s.profile n).idleHold) (hs : (s.slot n).state = .awake)
    (h0 : p.idleHold = 0) : (s.storeProfile n p).slot n = { s.slot n with step := none } := by
  have hprofile := profileStored_profile s n p
  have hawake : ((s.profileStored n p).slot n).state = .awake := hs
  rw [storeProfile_slot, idleHoldWritten_stops (by rw [hprofile]; exact h) (by rw [hprofile]; exact h0) hawake]
  rfl

theorem storeProfile_slot_loads {p : Profile} (h : p.idleHold ≠ (s.profile n).idleHold)
    (hd : s.idleHoldDue n p.idleHold = true) :
    (s.storeProfile n p).slot n = { s.slot n with step := some { purpose := .idleHold, ms := p.idleHold } } := by
  have hprofile := profileStored_profile s n p
  rw [storeProfile_slot, idleHoldWritten_loads (by rw [hprofile]; exact h) (by rw [hprofile]; exact hd), hprofile]
  rfl

/-- The power fields are open exactly where the slot has neither charge nor work (R141). -/
theorem powerFieldsOpen_eq_not (s : State) (n : Slot) : s.powerFieldsOpen n =
    !(!((s.slot n).state == .off || (s.slot n).state == .faulted) || !(s.queue n).isEmpty) := by
  rw [Bool.not_or, Bool.not_not, Bool.not_not, State.powerFieldsOpen]

/-- Settles O20: the outcomes of `writeProfileOp`; the last is `State.storeProfile` with the answer, field by field. -/
theorem writeProfileChecksAndStores : Obligations.WriteProfileChecksAndStores := by
  intro i bytes frame rest c s hdue hkind hform hman
  have hexec : exec .writeEntryProfile s = .next (writeProfileOp c (i, bytes) { s with ingress := rest }) :=
    take_managed s hdue hkind _ hform hman writeProfileOp
  rw [hexec]
  refine ⟨fun hi => by rw [writeProfileOp_badIndex hi, respond_answered], fun hi => ?_⟩
  intro n locked
  have hopen : State.powerFieldsOpen { s with ingress := rest } n = !locked := powerFieldsOpen_eq_not s n
  refine ⟨fun hb => by rw [writeProfileOp_badValue hi hb, respond_answered], fun p hb => ⟨fun hpower hlocked => ?_, fun hok => ?_⟩⟩
  · rw [writeProfileOp_read hi hb, if_pos ⟨hpower, by rw [hopen, hlocked]; rfl⟩, respond_answered]
  · have haccepted : ¬ (p.power ≠ (State.profile { s with ingress := rest } n).power ∧
        State.powerFieldsOpen { s with ingress := rest } n = false) := by
      rintro ⟨hpower, hclosed⟩
      rw [hopen] at hclosed
      rcases hok with hsame | hunlocked
      · exact hpower hsame
      · rw [hunlocked] at hclosed
        exact Bool.noConfusion hclosed
    have fi := setIngress_frame s rest
    have fs := storeProfile_frame { s with ingress := rest } n p
    have fr := respond_frame (State.storeProfile { s with ingress := rest } n p) c .ok []
    have himm : s.immediate = _ := fs .immediate (by decide)
    have hresp : s.responses = _ := fs .responses (by decide)
    have hslot := fun m => fr.slot m
    rw [writeProfileOp_read hi hb, if_neg haccepted]
    refine ⟨_, rfl, storeProfile_profiles _ n p, ?_, ?_, (fs .ingress (by decide)).symm,
      storeProfile_evaluationDue { s with ingress := rest } n p, fun m hm => ?_, fun hsame => ?_, fun hne hawake h0 => ?_,
      fun hne hawake hpin hqueue hflight hrestart h0 => ?_, ?_⟩
    · exact congrArg (fun v : Vector ImmediateEntry 16 => v.set c.entry _) himm.symm
    · exact congrArg (· ++ [ResponseItem.immediate c.entry]) hresp.symm
    · rw [hslot]; exact storeProfile_slot_other hm p
    · rw [hslot]; exact storeProfile_slot_same hsame
    · rw [hslot]; exact storeProfile_slot_stops hne hawake h0
    · rw [hslot]
      exact storeProfile_slot_loads hne ((idleHoldDue_iff s n _).mpr ⟨hawake, hpin, hqueue, hflight, h0, hrestart⟩)
    · exact (fi.andThen fs (c := [.ingress, .profiles, .slots, .evaluationDue]) (by decide) (by decide)).andThen fr (by decide)
        (by decide)

end Sys2Proof.Machine
end

section
/-! Management operations: the reports on units, slots, queues and the fault record (R151 to R153, R160), and SLOT_WAKE (R155). -/

set_option Elab.async false

namespace Sys2Proof.Machine

variable {s : State} {n : Slot} {c : Taken}

/-! ## The number of a unit (R135) -/

/-- The indexed entries that a lookup goes through are those of the table. -/
theorem mem_indexedUnits_iff (s : State) (e : UnitEntry) (i : Nat) :
    (e, i) ∈ s.unitMap.toList.zipIdx ↔ ∃ j : Fin 128, j.val = i ∧ s.unitMap[j] = e := by
  rw [List.mem_zipIdx_iff_getElem?, List.getElem?_eq_some_iff]
  constructor
  · rintro ⟨hi, he⟩
    exact ⟨⟨i, by simpa using hi⟩, rfl, by simpa using he⟩
  · rintro ⟨j, rfl, he⟩
    exact ⟨by simp, by simpa using he⟩

/-- A lookup finds a valid entry with the number. -/
theorem lookup_some {u i : Nat} {e : UnitEntry} (h : s.lookup u = some (i, e)) :
    ∃ j : Fin 128, j.val = i ∧ s.unitMap[j].valid = true ∧ s.unitMap[j].number = u := by
  obtain ⟨⟨e', i'⟩, hfound, heq⟩ := Option.map_eq_some_iff.mp h
  obtain ⟨rfl, rfl⟩ := Prod.mk.inj heq
  obtain ⟨j, hj, hentry⟩ := (mem_indexedUnits_iff s e' i').mp (List.mem_of_find?_eq_some hfound)
  have hmatch := List.find?_some hfound
  rw [Bool.and_eq_true, beq_iff_eq, ← hentry] at hmatch
  exact ⟨j, hj, hmatch⟩

/-- A lookup finds nothing exactly where no valid entry has the number. -/
theorem lookup_none_iff (s : State) (u : Nat) :
    s.lookup u = none ↔ ∀ j : Fin 128, s.unitMap[j].valid = true → s.unitMap[j].number ≠ u := by
  rw [State.lookup, Option.map_eq_none_iff, List.find?_eq_none]
  constructor
  · intro h j hvalid hnumber
    exact h (s.unitMap[j], j.val) ((mem_indexedUnits_iff s _ _).mpr ⟨j, rfl, rfl⟩)
      (Bool.and_eq_true_iff.mpr ⟨hvalid, beq_iff_eq.mpr hnumber⟩)
  · rintro h ⟨e, i⟩ hmem hmatch
    obtain ⟨j, -, rfl⟩ := (mem_indexedUnits_iff s e i).mp hmem
    rw [Bool.and_eq_true, beq_iff_eq] at hmatch
    exact h j hmatch.1 hmatch.2

/-- With distinct unit numbers a valid entry is the one that a lookup of its number finds (R134, R135). -/
theorem lookup_of_valid (hd : s.unitsDistinct) {j : Fin 128} (hvalid : s.unitMap[j].valid = true) :
    ∃ e, s.lookup s.unitMap[j].number = some (j.val, e) := by
  cases hfound : s.lookup s.unitMap[j].number with
  | none => exact absurd rfl ((lookup_none_iff s _).mp hfound j hvalid)
  | some found =>
    obtain ⟨k, hk, hkvalid, hknumber⟩ := lookup_some hfound
    obtain rfl : k = j := hd.2 k j hkvalid hvalid hknumber
    exact ⟨found.2, by rw [hk]⟩

/-- Unit 0 is never found (R134). -/
theorem lookup_zero (hd : s.unitsDistinct) : s.lookup 0 = none := (lookup_none_iff s 0).mpr hd.1

theorem findUnitOp_found {u i : Nat} {e : UnitEntry} (h : s.lookup u = some (i, e)) :
    findUnitOp c u s = s.respond c .ok [byteOf i] := by simp only [findUnitOp, h]

theorem findUnitOp_unknown {u : Nat} (h : s.lookup u = none) : findUnitOp c u s = s.respond c .unknownUnit [] := by
  simp only [findUnitOp, h]

/-- Settles O24: what `State.lookup` finds decides the answer, and it finds the valid entry with the number. -/
theorem findUnitReturnsIndex : Obligations.FindUnitReturnsIndex := by
  intro u frame rest c s hdue hkind hform hman
  have hexec : exec .findUnit s = .next (findUnitOp c u (s.unqueued rest)) := take_managed s hdue hkind _ hform hman findUnitOp
  rw [hexec]
  refine ⟨fun i hd hvalid hnumber => ?_, fun hnone => ?_, fun hd hzero => ?_⟩
  · obtain ⟨e, hfound⟩ : ∃ e, (s.unqueued rest).lookup u = some (i.val, e) := hnumber ▸ lookup_of_valid hd hvalid
    rw [findUnitOp_found hfound]
    rfl
  · have hlookup : (s.unqueued rest).lookup u = none := (lookup_none_iff s u).mpr hnone
    rw [findUnitOp_unknown hlookup]
    rfl
  · have hlookup : (s.unqueued rest).lookup u = none := hzero ▸ lookup_zero hd
    rw [findUnitOp_unknown hlookup]
    rfl

/-! ## The slot report (R152, R186) -/

theorem restModeCode_eq (m : RestMode) : restModeCode m = if m = .slumber then 0x01 else 0x02 := by cases m <;> rfl

/-- Settles O25: the report byte by byte; its middle part goes by the slot's wake list entry and its drain. -/
theorem readSlotReportsSlot : Obligations.ReadSlotReportsSlot := by
  intro b frame rest c s hdue hkind hform hman
  obtain ⟨hbad, hrun⟩ := slotCommand_run hdue hkind hform hman readSlotOp
  refine ⟨hbad, fun n hn => ?_⟩
  intro r listing course
  refine (hrun n hn).trans (congrArg (fun bytes => Host.Outcome.next (s.answered c rest .ok bytes)) ?_)
  show s.slotReport n = _
  rw [State.slotReport]
  refine congrArg₂ (· ++ ·) (congrArg₂ (· ++ ·) (congrArg₂ (· ++ ·) rfl ?_) ?_) ?_
  · dsimp only [listing]
    cases s.wakeEntry n with
    | none => rfl
    | some e => exact congrArg (word16 e.join.toNat ++ [·]) (levelCode_eq e.level)
  · dsimp only [course, r]
    cases (s.slot n).drain with
    | none => rfl
    | some d => exact congrArg ([drainCauseCode d.cause, ·]) (restModeCode_eq d.target)
  · dsimp only [r]
    cases (s.slot n).switchOff with
    | none => rfl
    | some kind => cases kind <;> rfl

/-! ## The queue report (R153, R186) -/

/-- The code of a record in a queue, which is not DONE. -/
theorem recordStateCode_eq {st : RecordState} (h : st ≠ .done) : recordStateCode st = if st = .queued then 0x01 else 0x02 := by
  cases st with
  | queued => rfl
  | dispatched => rfl
  | done => exact absurd rfl h

/-- Settles O26: the report record by record, each by its owner and its tag. -/
theorem readQueueListsRecords : Obligations.ReadQueueListsRecords := by
  intro b frame rest c s hdue hkind hform hman
  obtain ⟨hbad, hrun⟩ := slotCommand_run hdue hkind hform hman readQueueOp
  refine ⟨hbad, fun n hn hlive => ?_⟩
  refine (hrun n hn).trans (congrArg
    (fun items => Host.Outcome.next (s.answered c rest .ok (byteOf (s.queue n).length :: items))) ?_)
  show (s.queue n).flatMap queueItem = _
  refine List.flatMap_congr fun r hr => ?_
  rw [queueItem, recordStateCode_eq (hlive r hr), levelCode_eq]
  cases r.owner <;> cases r.tag <;> rfl

/-! ## The fault report (R160, R186) -/

theorem faultReport_latched {f : FaultRecord} {l : LatchedFault} (h : f.latched = some l) (stamp : Stamp) :
    faultReport f stamp = [0x01, f.serial, byteOf f.overflow, faultKindCode l.kind, byteOf l.slot.val] ++ word32 stamp ++
      (match l.requesterTag with
        | some (r, t) => [byteOf r.val, t]
        | none => [0xFF, 0xFF]) := by
  simp only [faultReport, h, Option.bind_some]
  cases l.requesterTag <;> rfl

theorem faultReport_empty {f : FaultRecord} (h : f.latched = none) (stamp : Stamp) :
    faultReport f stamp = [0x00, f.serial, byteOf f.overflow, 0xFF, 0xFF] ++ word32 stamp ++ [0xFF, 0xFF] := by
  simp only [faultReport, h]
  rfl

theorem readFaultOp_latched {l : LatchedFault} (h : s.fault.latched = some l) :
    readFaultOp c () s = s.respond c .ok (faultReport s.fault l.stamp) := by simp only [readFaultOp, h]

theorem readFaultOp_empty (h : s.fault.latched = none) : readFaultOp c () s =
    ({ s with freeIndex := s.freeIndex + 1 } : State).respond c .ok
      (faultReport s.fault (Config.emptyFaultStamp s.freeIndex)) := by
  simp only [readFaultOp, h]

/-- Settles O33: the report of a latched and of an empty record; the stamp of an empty one is the model's free value. -/
theorem readFaultReportsRecord : Obligations.ReadFaultReportsRecord := by
  intro frame rest c s hdue hkind hform hman
  have hexec : exec .readFault s = .next (readFaultOp c () (s.unqueued rest)) :=
    take_managed s hdue hkind _ hform hman readFaultOp
  rw [hexec]
  refine ⟨fun l hlatched => ?_, fun hempty => ⟨Config.emptyFaultStamp s.freeIndex, ?_⟩⟩
  · have hlatched' : (s.unqueued rest).fault.latched = some l := hlatched
    rw [readFaultOp_latched hlatched', faultReport_latched hlatched']
    rfl
  · have hempty' : (s.unqueued rest).fault.latched = none := hempty
    rw [readFaultOp_empty hempty', faultReport_empty hempty']
    rfl

/-! ## SLOT_WAKE (R155) -/

theorem slotOfByte_of_toNat {b : Byte} (h : b.toNat = n.val) : slotOfByte b = some n :=
  slotOfByte_eq_some.mpr (by rw [← h, byteOf_of_toNat])

theorem slotOfByte_none {b : Byte} (h : 24 ≤ b.toNat) : slotOfByte b = none := dif_neg (Nat.not_lt.mpr h)

/-- A level argument is 0 or 1 (R147). -/
theorem levelOfByte_some {l : Byte} (h : l.toNat ≤ 1) : levelOfByte l = some (if l = 1 then .urgent else .normal) := by
  obtain rfl | rfl : l = 0 ∨ l = 1 := by bv_omega
  · rfl
  · rfl

theorem levelOfByte_none {l : Byte} (h : 1 < l.toNat) : levelOfByte l = none := by
  have hzero : l ≠ 0 := by bv_omega
  have hone : l ≠ 1 := by bv_omega
  rw [levelOfByte, if_neg hzero, if_neg hone]

theorem slotWakeOp_badIndex {b l : Byte} (h : 24 ≤ b.toNat) : slotWakeOp c (b, l) s = s.respond c .badIndex [] := by
  simp only [slotWakeOp, slotOfByte_none h]

theorem slotWakeOp_badValue {b l : Byte} (hb : b.toNat = n.val) (hl : 1 < l.toNat) :
    slotWakeOp c (b, l) s = s.respond c .badValue [] := by
  simp only [slotWakeOp, slotOfByte_of_toNat hb, levelOfByte_none hl]

/-- SLOT_WAKE with a slot and a level: it goes by the slot's presence and state. -/
theorem slotWakeOp_eq {b l : Byte} (hb : b.toNat = n.val) (hl : l.toNat ≤ 1) : slotWakeOp c (b, l) s =
    if (s.profile n).power.present = false then s.respond c .slotAbsent []
    else if (s.slot n).state = .faulted then s.respond c .slotFaulted []
    else if (s.slot n).state.resting = true then
      (s.gainReason n .managed (if l = 1 then .urgent else .normal)).respond c .ok []
    else s.respond c .ok [] := by
  simp only [slotWakeOp, slotOfByte_of_toNat hb, levelOfByte_some hl]

theorem slotWakeOp_absent {b l : Byte} (hb : b.toNat = n.val) (hl : l.toNat ≤ 1) (h : (s.profile n).power.present = false) :
    slotWakeOp c (b, l) s = s.respond c .slotAbsent [] := by
  rw [slotWakeOp_eq hb hl, if_pos h]

theorem slotWakeOp_present {b l : Byte} (hb : b.toNat = n.val) (hl : l.toNat ≤ 1) (h : (s.profile n).power.present = true) :
    slotWakeOp c (b, l) s =
      if (s.slot n).state = .faulted then s.respond c .slotFaulted []
      else if (s.slot n).state.resting = true then
        (s.gainReason n .managed (if l = 1 then .urgent else .normal)).respond c .ok []
      else s.respond c .ok [] := by
  rw [slotWakeOp_eq hb hl, if_neg (ne_false_of_eq_true h)]

theorem slotWakeOp_faulted {b l : Byte} (hb : b.toNat = n.val) (hl : l.toNat ≤ 1) (h : (s.profile n).power.present = true)
    (hs : (s.slot n).state = .faulted) : slotWakeOp c (b, l) s = s.respond c .slotFaulted [] := by
  rw [slotWakeOp_present hb hl h, if_pos hs]

theorem slotWakeOp_resting {b l : Byte} (hb : b.toNat = n.val) (hl : l.toNat ≤ 1) (h : (s.profile n).power.present = true)
    (hs : (s.slot n).state = .off ∨ (s.slot n).state = .slumber) : slotWakeOp c (b, l) s =
      (s.gainReason n .managed (if l = 1 then .urgent else .normal)).respond c .ok [] := by
  rw [slotWakeOp_present hb hl h]
  rcases hs with hs | hs <;> rw [hs] <;> rfl

theorem slotWakeOp_powered {b l : Byte} (hb : b.toNat = n.val) (hl : l.toNat ≤ 1) (h : (s.profile n).power.present = true)
    (hoff : (s.slot n).state ≠ .off) (hslumber : (s.slot n).state ≠ .slumber) (hfaulted : (s.slot n).state ≠ .faulted) :
    slotWakeOp c (b, l) s = s.respond c .ok [] := by
  have hawake : ¬ (s.slot n).state.resting = true := fun hrest => (resting_cases hrest).elim hoff hslumber
  rw [slotWakeOp_present hb hl h, if_neg hfaulted, if_neg hawake]

/-- A reason gained on the state without the frame, and then the answer, seen from the state with the frame. -/
theorem gainReason_answered (s : State) (n : Slot) (why : WakeReason) (l : Level) (c : Taken) (rest : List (List Byte)) :
    let t := ((s.unqueued rest).gainReason n why l).respond c .ok []
    ReasonGained n why l s t ∧ t.immediate = (s.answered c rest .ok []).immediate ∧
      t.responses = s.responses ++ [.immediate c.entry] ∧ t.ingress = rest ∧
      Unchanged [.wake, .joinCounter, .evaluationDue, .immediate, .responses, .ingress] s t := by
  intro t
  have fgain := gainReason_frame (s.unqueued rest) n why l
  have frespond := respond_frame ((s.unqueued rest).gainReason n why l) c .ok []
  have hgained : ReasonGained n why l s ((s.unqueued rest).gainReason n why l) :=
    (gainReason_gained _ n why l).after (setIngress_frame s rest)
  have hresponses : s.responses = _ := fgain .responses (by decide)
  obtain ⟨himmediate, htail, hingress⟩ := finish_answered fgain (Unchanged.refl [] t)
  exact ⟨hgained.andThen frespond, himmediate, htail.trans (by rw [← hresponses]), hingress,
    fgain.fromIngress.trans (frespond.mono (by decide))⟩

/-- Settles O28: the branches of `slotWakeOp` in their order; a resting slot gains the reason by `gainReason_answered`. -/
theorem slotWakeGivesManagedReason : Obligations.SlotWakeGivesManagedReason := by
  intro b l frame rest c s hdue hkind hform hman
  have hexec : exec .slotWake s = .next (slotWakeOp c (b, l) (s.unqueued rest)) :=
    take_managed s hdue hkind _ hform hman slotWakeOp
  rw [hexec]
  refine ⟨fun hb => congrArg _ (slotWakeOp_badIndex hb), fun n hb => ⟨fun hl => congrArg _ (slotWakeOp_badValue hb hl),
    fun hl habsent => congrArg _ (slotWakeOp_absent hb hl habsent),
    fun hl hpresent hfaulted => congrArg _ (slotWakeOp_faulted hb hl hpresent hfaulted),
    fun hl hpresent hrest => ⟨_, congrArg _ (slotWakeOp_resting hb hl hpresent hrest), gainReason_answered s n _ _ c rest⟩,
    fun hl hpresent hoff hslumber hfaulted => congrArg _ (slotWakeOp_powered hb hl hpresent hoff hslumber hfaulted)⟩⟩

end Sys2Proof.Machine
end

section
/-! What the Report Unit and ingress keep while the hub runs: the operations that raise notices, and those they call (R167 to R170,
R177). -/

set_option Elab.async false

namespace Sys2Proof.Machine

variable {s t u : State} {n : Slot}

/-! ## The relation of an operation of a running hub -/

/-- From `s` to `t`, both in the same phase of the hub, no time has passed, and ingress and, in a running hub, the notice queue stay
within what their laws allow. -/
structure Reports (s t : State) : Prop where
  hub : t.hub = s.hub
  timeBase : t.timeBase = s.timeBase
  ingress : s.ingressSound → t.ingressSound
  notices : s.running = true → s.noticesSound → t.noticesSound

theorem Reports.refl (s : State) : Reports s s := ⟨rfl, rfl, id, fun _ => id⟩

theorem Reports.running (h : Reports s t) : t.running = s.running := by
  rw [State.running, State.running, h.hub]

theorem Reports.trans (h : Reports s t) (k : Reports t u) : Reports s u :=
  ⟨k.hub.trans h.hub, k.timeBase.trans h.timeBase, k.ingress ∘ h.ingress,
    fun hr hs => k.notices (h.running.trans hr) (h.notices hr hs)⟩

theorem Reports.ite {p : Prop} [Decidable p] (h : p → Reports s t) (k : ¬ p → Reports s u) :
    Reports s (if p then t else u) := by
  split
  · exact h ‹_›
  · exact k ‹_›

theorem Reports.foldl {α : Type} {op : State → α → State} (h : ∀ s x, Reports s (op s x)) :
    ∀ (l : List α) (s : State), Reports s (l.foldl op s)
  | [], s => Reports.refl s
  | x :: l, s => (h s x).trans (Reports.foldl h l (op s x))

/-! ## Operations that the frames alone decide -/

/-- An operation that leaves hub, time base and ingress alone; its notices are looked at apart. -/
theorem Reports.of_notices {a : List Field} (f : Unchanged a s t) (h : s.running = true → s.noticesSound → t.noticesSound)
    (ha : ∀ f ∈ [Field.hub, .timeBase, .ingress], f ∉ a := by decide) : Reports s t := by
  have hhub : s.hub = t.hub := f .hub (ha _ (by decide))
  have htime : s.timeBase = t.timeBase := f .timeBase (ha _ (by decide))
  have hingress : s.ingress = t.ingress := f .ingress (ha _ (by decide))
  exact ⟨hhub.symm, htime.symm, fun hs => by rwa [State.ingressSound, ← hingress], h⟩

/-- The law of the notices reads four fields. -/
theorem noticesSound_of_frame {a : List Field} (f : Unchanged a s t) (hs : s.noticesSound)
    (ha : ∀ f ∈ [Field.hub, .notices, .lostCount, .transmitter], f ∉ a := by decide) : t.noticesSound := by
  have hnotices : s.notices = t.notices := f .notices (ha _ (by decide))
  have hlost : s.lostCount = t.lostCount := f .lostCount (ha _ (by decide))
  have htransmitter : s.transmitter = t.transmitter := f .transmitter (ha _ (by decide))
  rw [State.noticesSound, f.running (ha _ (by decide)), State.noticesInTransmission, ← hnotices, ← hlost, ← htransmitter]
  exact hs

theorem Reports.of_frame {a : List Field} (f : Unchanged a s t)
    (ha : ∀ f ∈ [Field.hub, .timeBase, .ingress, .notices, .lostCount, .transmitter], f ∉ a := by decide) : Reports s t :=
  Reports.of_notices f (fun _ hs => noticesSound_of_frame f hs (fun g hg => ha g (by revert g; decide)))
    (fun g hg => ha g (by revert g; decide))

/-! ## Raising a notice (R168, R169) -/

/-- A notice is appended where the queue has room; on a full queue it is dropped and counted. -/
theorem raise_noticesSound (x : Notice) (hr : s.running = true) (hs : s.noticesSound) : (s.raise x).noticesSound := by
  obtain ⟨hcap, hlost, hcount, hsent, hheld⟩ := hs
  have hnotHeld : s.running ≠ false := ne_false_of_eq_true hr
  by_cases hroom : s.notices.length < 32
  · have hnone : s.lostCount = 0 := by
      by_contra hne
      exact absurd (hlost hne) (Nat.ne_of_lt hroom)
    rw [raise_room s x hroom]
    refine ⟨?_, fun hne => absurd hnone hne, hcount, ?_, fun h => absurd h hnotHeld⟩
    · simpa using hroom
    · exact hsent.trans (by simp)
  · have hfull : s.notices.length = Config.noticeQueueSize := Nat.le_antisymm hcap (Nat.not_lt.mp hroom)
    rw [raise_full s x (Nat.not_lt.mp hroom)]
    exact ⟨hcap, fun _ => hfull, Nat.min_le_left _ _, hsent, fun h => absurd h hnotHeld⟩

theorem raise_reports (s : State) (x : Notice) : Reports s (s.raise x) :=
  Reports.of_notices (raise_frame s x) (raise_noticesSound x)

/-- An occurrence that is folded into a waiting entry adds none. -/
theorem coalesceInto_length (kind : NoticeKind) (now : Stamp) : ∀ l : List Notice, (coalesceInto kind now l).length = l.length
  | [] => rfl
  | x :: l => by
    have ih := coalesceInto_length kind now l
    unfold coalesceInto
    split <;> simp [ih]

theorem raiseLink_reports (s : State) (kind : NoticeKind) : Reports s (s.raiseLink kind) := by
  unfold State.raiseLink
  refine Reports.ite (fun _ => ?_) (fun _ => raise_reports s _)
  have hlength : (s.notices.take s.noticesInTransmission ++
      coalesceInto kind s.timeBase (s.notices.drop s.noticesInTransmission)).length = s.notices.length := by
    rw [List.length_append, coalesceInto_length, ← List.length_append, List.take_append_drop]
  refine ⟨rfl, rfl, id, fun _ hs => ?_⟩
  rw [State.noticesSound, hlength]
  exact hs

/-! ## Shedding edges and the limit -/

theorem activateShedding_reports (s : State) (c : ActivationCause) : Reports s (s.activateShedding c) := by
  have hactive : Reports s { s with shedding := { active := some c, victims := 0 }, evaluationDue := false } :=
    ⟨rfl, rfl, id, fun _ => id⟩
  exact (hactive.trans (raise_reports _ _)).trans (Reports.of_frame (markPass_frame _))

theorem endShedding_reports (s : State) (c : ShedEndCause) : Reports s (s.endShedding c) := by
  have hended : Reports s { s with shedding := { s.shedding with active := none }, passDue := false } :=
    ⟨rfl, rfl, id, fun _ => id⟩
  exact (hended.trans (raise_reports _ _)).trans (Reports.of_frame (markEvaluation_frame _))

theorem limitSet_reports (s : State) (old : Nat) (c : ActivationCause) : Reports s (s.limitSet old c) := by
  have hmark := Reports.of_frame (markEvaluation_frame s)
  unfold State.limitSet
  refine Reports.ite (fun _ => ?_) (fun _ => ?_)
  · refine Reports.ite (fun _ => Reports.refl s) (fun _ => ?_)
    exact Reports.ite (fun _ => endShedding_reports s _) (fun _ => Reports.of_frame (markPass_frame s))
  · refine Reports.ite (fun _ => activateShedding_reports s _) (fun _ => ?_)
    exact Reports.ite (fun _ => hmark) (fun _ => Reports.refl s)

/-! ## Slots and their records -/

theorem setSlot_reports (s : State) (n : Slot) (r : SlotRecord) : Reports s (s.setSlot n r) :=
  Reports.of_frame (setSlot_frame s n r)

theorem setAtt_reports (s : State) (n : Slot) (a : AttentionRecord) : Reports s (s.setAtt n a) :=
  Reports.of_frame (setAtt_frame s n a)

theorem setQueue_reports (s : State) (n : Slot) (q : List Record) : Reports s (s.setQueue n q) :=
  Reports.of_frame (setQueue_frame s n q)

theorem gainReason_reports (s : State) (n : Slot) (why : WakeReason) (l : Level) : Reports s (s.gainReason n why l) :=
  Reports.of_frame (gainReason_frame s n why l)

/-- The SLOT_STATE notice is the one notice of a change of state (R25). -/
theorem changeState_reports (s : State) (n : Slot) (new : SlotState) (extra : List Byte) :
    Reports s (s.changeState n new extra) := by
  have hreported : Reports s (s.reportChange n new extra) := by
    unfold State.reportChange
    exact Reports.ite (fun _ => raise_reports s _) (fun _ => Reports.refl s)
  have hchanged : ∀ v order control, Reports s
      { (s.reportChange n new extra).setSlot n v with useOrder := order, control := control } := fun v order control =>
    hreported.trans ⟨rfl, rfl, id, fun _ => id⟩
  have hreleased := fun v order control old new =>
    (hchanged v order control).trans (Reports.of_frame (release_frame _ old new))
  unfold State.changeState
  exact Reports.ite (fun _ => (hreleased _ _ _ _ _).trans (Reports.of_frame (leaveEvictionSet_frame _ n)))
    (fun _ => hreleased _ _ _ _ _)

/-! ## Attention actions (R122, R127) -/

theorem raiseAttention_reports (s : State) (n : Slot) (st : Status) (d : List Byte) : Reports s (s.raiseAttention n st d) :=
  raise_reports s _

theorem endAction_reports (s : State) (n : Slot) (st : Status) (d : List Byte) (h : Bool) : Reports s (s.endAction n st d h) :=
  (raiseAttention_reports s n st d).trans (setAtt_reports _ n _)

theorem attentionAtOff_reports (s : State) (n : Slot) : Reports s (s.attentionAtOff n) := by
  unfold State.attentionAtOff
  refine Reports.ite (fun _ => setAtt_reports s n _) (fun _ => ?_)
  refine Reports.trans ?_ (setAtt_reports _ n _)
  split
  · exact (Reports.of_frame (setClaims_frame s _)).trans (raiseAttention_reports _ n _ _)
  · exact (Reports.of_frame (withdrawReason_frame s n _)).trans (raiseAttention_reports _ n _ _)
  · exact Reports.refl s
  · exact Reports.refl s
  · exact Reports.refl s

theorem attentionAtFault_reports (s : State) (n : Slot) : Reports s (s.attentionAtFault n) := by
  have hcleared : ∀ v, Reports s v →
      Reports s { v.setAtt n AttentionRecord.reset with claims := v.claims.filter (· != n) } := fun v hv =>
    (hv.trans (setAtt_reports v n _)).trans (Reports.of_frame (setClaims_frame _ _))
  have hraised : Reports s (if s.restarting = true then s else s.raiseAttention n .slotFaulted []) :=
    Reports.ite (fun _ => Reports.refl s) (fun _ => raiseAttention_reports s n _ _)
  unfold State.attentionAtFault
  apply hcleared
  split
  · exact hraised
  · exact hraised
  · exact Reports.refl s
  · exact Reports.refl s
  · exact Reports.refl s

/-! ## Records that complete, and records that join -/

/-- Of the records that complete, a fetch ends in ATTENTION and a failed posted write in WRITE_LOST (R89, R126). -/
theorem handOff_reports (s : State) (r : Record) (st : Status) (d : List Byte) (h : Bool) : Reports s (s.handOff r st d h) := by
  unfold State.handOff
  split
  · unfold State.fetchDone
    exact Reports.ite (fun _ => setAtt_reports s _ _) (fun _ => endAction_reports s _ _ _ _)
  · split
    · exact Reports.ite (fun _ => Reports.refl s) (fun _ => raise_reports s _)
    · exact ⟨rfl, rfl, id, fun _ => id⟩
    · exact ⟨rfl, rfl, id, fun _ => id⟩

theorem completeAll_reports (s : State) (rs : List Record) (st : Record → Status) (h : Bool) :
    Reports s (s.completeAll rs st h) :=
  Reports.foldl (fun s r => handOff_reports s r (st r) [] h) rs s

theorem cancelDrain_reports (s : State) (n : Slot) : Reports s (s.cancelDrain n) := by
  have hawake := changeState_reports s n .awake []
  unfold State.cancelDrain
  exact Reports.ite (fun _ => hawake.trans (endAction_reports _ n _ _ _)) (fun _ => hawake)

theorem joinQueue_reports (s : State) (n : Slot) (r : Record) : Reports s (s.joinQueue n r) := by
  have hjoined := setQueue_reports s n (s.queue n ++ [r])
  dsimp only [State.joinQueue]
  split
  · exact hjoined.trans (setSlot_reports _ n _)
  · exact Reports.ite (fun _ => hjoined.trans (cancelDrain_reports _ n)) (fun _ => hjoined)
  · exact hjoined.trans (gainReason_reports _ n _ _)
  · exact hjoined.trans (gainReason_reports _ n _ _)
  all_goals exact hjoined

theorem createFetch_reports (s : State) (n : Slot) : Reports s (s.createFetch n) :=
  (setAtt_reports s n _).trans (joinQueue_reports _ n _)

theorem serveClaims_reports (s : State) : Reports s s.serveClaims :=
  (Reports.of_frame (setClaims_frame s _)).trans (Reports.foldl (fun v n => createFetch_reports v n) _ _)

theorem startAction_reports (s : State) (n : Slot) : Reports s (s.startAction n) := by
  have hwaits := setAtt_reports s n { s.att n with phase := .waitingAwake }
  have hended := endAction_reports s n .ok [] true
  dsimp only [State.startAction]
  split
  · exact Reports.refl s
  · exact hended
  · split
    · exact hended
    · exact hwaits.trans (gainReason_reports _ n _ _)
    all_goals exact hwaits
  · exact Reports.ite (fun _ => createFetch_reports s n)
      (fun _ => (setAtt_reports s n _).trans (Reports.of_frame (setClaims_frame _ _)))

theorem activation_reports (s : State) (n : Slot) : Reports s (s.activation n) := by
  unfold State.activation
  split
  · exact Reports.ite (fun _ => Reports.refl s) (fun _ => (setAtt_reports s n _).trans (startAction_reports _ n))
  · exact Reports.refl s
  · exact setAtt_reports s n _
  · exact setAtt_reports s n _
  · exact setAtt_reports s n _

/-! ## Coming to rest, drains and faults -/

theorem enterOff_reports (s : State) (n : Slot) (x : Bool) : Reports s (s.enterOff n x) :=
  ((changeState_reports s n .off []).trans (attentionAtOff_reports _ n)).trans (Reports.of_frame (gainAtRest_frame _ n x))

theorem enterSlumber_reports (s : State) (n : Slot) (x : Bool) : Reports s (s.enterSlumber n x) := by
  have hrest := (changeState_reports s n .slumber []).trans (Reports.of_frame (gainAtRest_frame _ n x))
  unfold State.enterSlumber
  exact Reports.ite (fun _ => hrest.trans (gainReason_reports _ n _ _)) (fun _ => hrest)

theorem towardsRest_reports (s : State) (n : Slot) : Reports s (s.towardsRest n) := by
  unfold State.towardsRest
  split
  · split
    · exact enterOff_reports s n _
    · exact Reports.of_frame (askControl_frame s n _)
  · exact Reports.refl s

theorem startDrain_reports (s : State) (n : Slot) (c : DrainCause) (m : RestMode) : Reports s (s.startDrain n c m) :=
  ((changeState_reports s n .draining _).trans (setSlot_reports _ n _)).trans (towardsRest_reports _ n)

theorem convertDrain_reports (s : State) (n : Slot) (c : DrainCause) : Reports s (s.convertDrain n c) :=
  Reports.of_frame (convertDrain_frame s n c)

theorem switchOff_reports (s : State) (n : Slot) (k : SwitchOffKind) : Reports s (s.switchOff n k) := by
  unfold State.switchOff
  exact Reports.ite (fun _ => setSlot_reports s n _) (fun _ => enterOff_reports s n _)

theorem reportFault_reports (s : State) (n : Slot) (k : FaultKind) (who : Option (Requester × Byte)) (x : NoticeKind)
    (c : Cause) : Reports s (s.reportFault n k who x c) :=
  (Reports.of_frame (setFault_frame s _)).trans (raise_reports _ _)

theorem enterFaulted_reports (s : State) (n : Slot) (k : FaultKind) : Reports s (s.enterFaulted n k) := by
  unfold State.enterFaulted
  refine Reports.trans ?_ (reportFault_reports _ n _ _ _ _)
  refine Reports.trans ?_ (attentionAtFault_reports _ n)
  refine Reports.trans ?_ (completeAll_reports _ _ _ _)
  refine Reports.trans ?_ (setQueue_reports _ n _)
  refine Reports.trans ?_ (setAtt_reports _ n _)
  exact (changeState_reports s n .faulted []).trans (Reports.of_frame (removeEntry_frame _ n))

/-! ## The end of an event -/

theorem finish_reports (s t : State) : Reports t (s.finish t) := by
  dsimp only [State.finish]
  generalize h2 : (if newCandidate s t.serveClaims = true then t.serveClaims.markEvaluation else t.serveClaims) = t2
  have hserved : Reports t t2 := by
    rw [← h2]
    exact (serveClaims_reports t).trans
      (Reports.ite (fun _ => Reports.of_frame (markEvaluation_frame _)) (fun _ => Reports.refl _))
  generalize h3 : (if courseChanged s t2 = true then t2.markPass else t2) = t3
  have hpassed : Reports t t3 := by
    rw [← h3]
    exact hserved.trans (Reports.ite (fun _ => Reports.of_frame (markPass_frame _)) (fun _ => Reports.refl _))
  exact Reports.ite (fun _ => hpassed.trans (endShedding_reports _ _)) (fun _ => hpassed)

end Sys2Proof.Machine
end

section
/-! What the Report Unit and ingress keep while the hub runs: the arbiter, the chain, the requests, the restart and the link (R167 to
R170, R177). -/

set_option Elab.async false

namespace Sys2Proof.Machine

variable {s t u : State} {n : Slot}

/-! ## The Budget Arbiter -/

theorem loadPoll_reports (s : State) (n : Slot) (p : StepPurpose) (ms : Nat) : Reports s (s.loadPoll n p ms) :=
  Reports.of_frame (loadPoll_frame s n p ms)

theorem powerUpGrant_reports (s : State) (n : Slot) : Reports s (s.powerUpGrant n) :=
  (((setSlot_reports s n _).trans (changeState_reports _ n .powering [])).trans (setSlot_reports _ n _)).trans
    (loadPoll_reports _ n _ _)

theorem wakeGrant_reports (s : State) (n : Slot) : Reports s (s.wakeGrant n) :=
  ((changeState_reports s n .waking []).trans (setSlot_reports _ n _)).trans (Reports.of_frame (askControl_frame _ n _))

theorem grant_reports (s : State) (n : Slot) : Reports s (s.grant n) := by
  have hstart := Reports.of_frame (grantStart_frame s n)
  unfold State.grant
  split
  · exact hstart.trans (powerUpGrant_reports _ n)
  · exact hstart.trans (wakeGrant_reports _ n)
  all_goals exact hstart

theorem evict_reports (s : State) (n : Slot) : Reports s (s.evict n) := by
  unfold State.evict
  exact Reports.ite (fun _ => convertDrain_reports s n _) (fun _ => startDrain_reports s n _ _)

theorem evaluate_reports : ∀ (fuel : Nat) (s : State), Reports s (State.evaluate fuel s)
  | 0, s => Reports.refl s
  | fuel + 1, s => by
    rw [evaluate_succ]
    split
    · exact Reports.refl s
    · refine Reports.ite (fun _ => (grant_reports s _).trans (evaluate_reports fuel _)) (fun _ => ?_)
      refine Reports.ite (fun _ => Reports.refl s) (fun _ => ?_)
      split
      · exact (Reports.of_frame (setEvictionSet_frame s _)).trans (Reports.foldl evict_reports _ _)
      · refine Reports.ite (fun _ => ?_) (fun _ => Reports.refl s)
        split
        · exact ((Reports.of_frame (countPass_frame s _)).trans (grant_reports _ _)).trans (evaluate_reports fuel _)
        · exact Reports.refl s

theorem shedSlot_reports (s : State) (n : Slot) : Reports s (s.shedSlot n) := by
  unfold State.shedSlot
  split
  · exact convertDrain_reports s n _
  · exact startDrain_reports s n _ _
  · exact switchOff_reports s n _
  · exact switchOff_reports s n _
  · exact switchOff_reports s n _
  all_goals exact Reports.refl s

theorem selectVictims_reports : ∀ (fuel : Nat) (s : State), Reports s (State.selectVictims fuel s)
  | 0, s => Reports.refl s
  | fuel + 1, s => by
    have hvictim : ∀ n, Reports s (s.selectVictim n) := fun n =>
      (shedSlot_reports s n).trans (Reports.of_frame (selectVictim_frame s n))
    rw [selectVictims_succ]
    refine Reports.ite (fun _ => Reports.refl s) (fun _ => ?_)
    split
    · exact Reports.refl s
    · exact Reports.ite (fun _ => (hvictim _).trans (endShedding_reports _ _))
        (fun _ => (hvictim _).trans (selectVictims_reports fuel _))

/-- The taking of a level of SUPPLY_LOW (R31). -/
theorem takeSupplyLevel_reports (s : State) : Reports s s.takeSupplyLevel := by
  have htaken : Reports s { s with supplyTaken := s.supplyLowPin } := ⟨rfl, rfl, id, fun _ => id⟩
  unfold State.takeSupplyLevel
  exact Reports.ite (fun _ => Reports.refl s) (fun _ => htaken.trans (limitSet_reports _ _ _))

/-! ## The chain -/

theorem select_reports (s : State) : Reports s s.select := by
  unfold State.select
  split
  · have hstart := fun c rest => Reports.of_frame (startControl_frame s c rest)
    exact Reports.ite (fun _ => (hstart _ _).trans (changeState_reports _ _ .settling [])) (fun _ => hstart _ _)
  · split
    · unfold State.dispatch
      split <;> exact ⟨rfl, rfl, id, fun _ => id⟩
    · exact Reports.refl s

theorem toPhase_reports (s : State) (p : AttemptPhase) (timeout : Option Nat) : Reports s (s.toPhase p timeout) :=
  ⟨rfl, rfl, id, fun _ => id⟩

theorem dataEnd_reports (s : State) (n : Slot) (o : AttemptOutcome) : Reports s (s.dataEnd n o) := by
  cases hq : s.queue n with
  | nil => rw [dataEnd_nil o hq]; exact Reports.refl s
  | cons r rest =>
    have hdone : Reports s (s.dataDone n r rest o) :=
      ((setQueue_reports s n rest).trans (handOff_reports _ r _ _ true)).trans (Reports.of_frame (used_frame _ n))
    rw [dataEnd_done hq]
    exact Reports.ite (fun _ => hdone.trans (towardsRest_reports _ n))
      (fun _ => hdone.trans (Reports.of_frame (startIdleHold_frame _ n)))

/-- The entry to AWAKE raises SLOT_STATE, and may end or start an attention action (R10, R118, R124). -/
theorem enterAwake_reports (s : State) (n : Slot) (identity : List Byte) : Reports s (s.enterAwake n identity) := by
  have hawake := changeState_reports s n .awake identity
  have hsensing : ∀ v : State, Reports v (v.beginSensing n) := fun v => by
    dsimp only [State.beginSensing]
    exact Reports.ite (fun _ => (setAtt_reports v n _).trans (activation_reports _ n)) (fun _ => setAtt_reports v n _)
  dsimp only [State.enterAwake]
  refine Reports.trans ?_ (Reports.of_frame (startIdleHold_frame _ n))
  refine Reports.ite (fun _ => hawake.trans (hsensing _)) (fun _ => ?_)
  exact Reports.ite (fun _ => hawake.trans (endAction_reports _ n _ _ _)) (fun _ => hawake)

theorem identifyEnd_reports (s : State) (n : Slot) (o : AttemptOutcome) : Reports s (s.identifyEnd n o) := by
  dsimp only [State.identifyEnd]
  split
  · exact enterOff_reports s n _
  · split
    · exact Reports.ite (fun _ => enterAwake_reports s n _) (fun _ => enterFaulted_reports s n _)
    · split
      · exact enterFaulted_reports s n _
      · exact loadPoll_reports s n _ _

theorem wakeEnd_reports (s : State) (n : Slot) : Reports s (s.wakeEnd n) := by
  dsimp only [State.wakeEnd]
  split
  · exact enterOff_reports s n _
  · exact enterFaulted_reports s n _
  · exact loadPoll_reports s n _ _

theorem slumberEnd_reports (s : State) (n : Slot) (o : AttemptOutcome) : Reports s (s.slumberEnd n o) := by
  unfold State.slumberEnd
  split
  · exact Reports.refl s
  · split
    · exact enterSlumber_reports s n _
    · exact (enterOff_reports s n _).trans (reportFault_reports _ n _ _ _ _)
    · exact enterOff_reports s n _

theorem exchangeEnd_reports (s : State) (e : Exchange) (o : AttemptOutcome) : Reports s (s.exchangeEnd e o) := by
  have hfreed := Reports.of_frame (freed_frame s)
  rw [exchangeEnd_eq]
  split
  · exact hfreed.trans (dataEnd_reports _ _ o)
  · exact hfreed.trans (dataEnd_reports _ _ o)
  · exact hfreed.trans (slumberEnd_reports _ _ o)
  · exact hfreed.trans (wakeEnd_reports _ _)
  · exact hfreed.trans (identifyEnd_reports _ _ o)

theorem attemptEnd_reports (s : State) (e : Exchange) (o : AttemptOutcome) : Reports s (s.attemptEnd e o) := by
  have hcounted : Reports s (s.counted e o) := setSlot_reports s e.slot _
  rw [attemptEnd_eq]
  refine Reports.ite (fun _ => ?_) (fun _ => Reports.ite (fun _ => ?_) (fun _ => ?_))
  · exact (hcounted.trans (Reports.of_frame (freed_frame _))).trans (enterFaulted_reports _ _ _)
  · exact hcounted.trans (Reports.of_frame (retry_frame _ e))
  · exact hcounted.trans (exchangeEnd_reports _ e o)

/-! ## Attention lines -/

theorem lineChange_reports (s : State) (n : Slot) (active : Bool) : Reports s (s.lineChange n active) := by
  dsimp only [State.lineChange]
  split
  · exact (setAtt_reports s n _).trans (activation_reports _ n)
  · exact setAtt_reports s n _
  · exact (setAtt_reports s n _).trans (Reports.of_frame (deactivation_frame _ n))

/-! ## Takes and their operations -/

theorem respond_reports (s : State) (c : Taken) (st : Status) (d : List Byte) : Reports s (s.respond c st d) :=
  Reports.of_frame (respond_frame s c st d)

/-- What a taken frame carries out is an operation of a running hub. -/
def CarryReports {α : Type} (carry : Taken → α → State → State) : Prop := ∀ c a s, Reports s (carry c a s)

theorem CarryReports.manage {α : Type} {op : Taken → α → State → State} (hop : CarryReports op) : CarryReports (manage op) :=
  fun c a s => Reports.ite (fun _ => respond_reports s c _ _) (fun _ => hop c a s)

theorem CarryReports.withSlot {op : Taken → Slot → State → State} (hop : CarryReports op) : CarryReports (withSlot op) :=
  fun c b s => by
    unfold Machine.withSlot
    split
    · exact respond_reports s c _ _
    · exact hop c _ s

theorem Reports.answered (h : Reports s t) (c : Taken) (st : Status) (d : List Byte) : Reports s (t.respond c st d) :=
  h.trans (respond_reports t c st d)

theorem Reports.finished (h : Reports s t) (v : State) : Reports s (v.finish t) := h.trans (finish_reports v t)

theorem admitData_reports : CarryReports admitData := fun c q s => by
  unfold admitData
  split
  · exact respond_reports s c _ _
  · have hjoined := fun n r => joinQueue_reports s n r
    exact (Reports.ite (fun _ => (hjoined _ _).answered c _ _) (fun _ => hjoined _ _)).finished s

/-- An operation that only answers. -/
theorem answer_reports {α : Type} {st : Status} {contents : α → State → List Byte} :
    CarryReports (fun c a s => s.respond c st (contents a s)) := fun c _ s => respond_reports s c _ _

theorem readEntryOp_reports : CarryReports readEntryOp := fun c a s => by
  unfold readEntryOp
  split <;> exact respond_reports s c _ _

theorem writeUnitOp_reports : CarryReports writeUnitOp := fun c a s => by
  have hrefused := fun st => respond_reports s c st []
  unfold writeUnitOp
  split
  · split
    · exact hrefused _
    · exact Reports.ite (fun _ => hrefused _) (fun _ => (Reports.of_frame (setUnitMap_frame s _)).answered c _ _)
  · exact hrefused _

theorem writeRequesterOp_reports : CarryReports writeRequesterOp := fun c a s => by
  have hrefused := fun st => respond_reports s c st []
  have hstored : ∀ v, Reports s { s with requesters := v } := fun _ => ⟨rfl, rfl, id, fun _ => id⟩
  unfold writeRequesterOp
  split
  · split
    · exact hrefused _
    · exact Reports.ite (fun _ => hrefused _) (fun _ => (hstored _).answered c _ _)
  · exact hrefused _

theorem storeProfile_reports (s : State) (n : Slot) (p : Profile) : Reports s (s.storeProfile n p) := by
  have hhold : ∀ (v : State) (old : Nat), Reports v (v.idleHoldWritten n old) := fun v old => by
    unfold State.idleHoldWritten
    exact Reports.ite (fun _ => Reports.refl v) (fun _ => Reports.ite (fun _ => setSlot_reports v n _)
      (fun _ => Reports.of_frame (startIdleHold_frame v n)))
  have hstored := (Reports.of_frame (setProfiles_frame s (s.profiles.set n p))).trans (hhold _ (s.profile n).idleHold)
  exact Reports.ite (fun _ => hstored.trans (Reports.of_frame (markEvaluation_frame _))) (fun _ => hstored)

theorem writeProfileOp_reports : CarryReports writeProfileOp := fun c a s => by
  have hrefused := fun st => respond_reports s c st []
  unfold writeProfileOp
  split
  · split
    · exact hrefused _
    · exact Reports.ite (fun _ => hrefused _) (fun _ => (storeProfile_reports s _ _).answered c _ _)
  · exact hrefused _

theorem writeChainOp_reports : CarryReports writeChainOp := fun c a s => by
  have hrefused := fun st => respond_reports s c st []
  unfold writeChainOp
  refine Reports.ite (fun _ => hrefused _) (fun _ => ?_)
  split
  · exact hrefused _
  · exact (Reports.of_frame (setChain_frame s _)).answered c _ _

theorem writeBudgetOp_reports : CarryReports writeBudgetOp := fun c a s => by
  have hrefused := fun st => respond_reports s c st []
  unfold writeBudgetOp
  refine Reports.ite (fun _ => hrefused _) (fun _ => ?_)
  split
  · exact hrefused _
  · exact ((Reports.of_frame (setBudget_frame s _)).trans (limitSet_reports _ _ _)).answered c _ _

theorem findUnitOp_reports : CarryReports findUnitOp := fun c unit s => by
  unfold findUnitOp
  split <;> exact respond_reports s c _ _

theorem readFaultOp_reports : CarryReports readFaultOp := fun c a s => by
  unfold readFaultOp
  split
  · exact respond_reports s c _ _
  · exact (Reports.of_frame (setFreeIndex_frame s _)).answered c _ _

theorem clearFaultOp_reports : CarryReports clearFaultOp := fun c serial s => by
  unfold clearFaultOp
  exact Reports.ite (fun _ => respond_reports s c _ _) (fun _ => Reports.ite (fun _ => respond_reports s c _ _)
    (fun _ => (Reports.of_frame (setFault_frame s _)).answered c _ _))

/-! ## Slot commands -/

theorem slotWakeOp_reports : CarryReports slotWakeOp := fun c a s => by
  have hanswered := fun st => respond_reports s c st []
  unfold slotWakeOp
  split
  · exact hanswered _
  · exact hanswered _
  · refine Reports.ite (fun _ => hanswered _) (fun _ => Reports.ite (fun _ => hanswered _) (fun _ => ?_))
    exact Reports.ite (fun _ => (gainReason_reports s _ _ _).answered c _ _) (fun _ => hanswered _)

theorem slotRestOp_reports : CarryReports slotRestOp := fun c n s => by
  have hanswered := fun st => respond_reports s c st []
  have hdrained := ((startDrain_reports s n .rest .slumber).answered c .ok []).finished s
  unfold slotRestOp
  exact Reports.ite (fun _ => Reports.ite (fun _ => hdrained) (fun _ => hanswered _)) (fun _ => hanswered _)

theorem attentionOff_reports (s : State) (n : Slot) : Reports s (s.attentionOff n) := by
  unfold State.attentionOff
  split
  · exact Reports.refl s
  · exact Reports.refl s
  · exact setAtt_reports s n _
  · exact (Reports.of_frame (setClaims_frame s _)).trans (endAction_reports _ n _ _ _)
  · exact endAction_reports s n _ _ _

theorem residencyOff_reports (s : State) (n : Slot) : Reports s (s.residencyOff n) := by
  unfold State.residencyOff
  split
  · exact Reports.refl s
  · exact Reports.refl s
  · exact switchOff_reports s n _
  · exact switchOff_reports s n _
  · exact switchOff_reports s n _
  · exact startDrain_reports s n _ _
  · exact (Reports.of_frame (retargeted_frame s n)).trans (towardsRest_reports _ n)
  · exact setSlot_reports s n _

/-- SLOT OFF in the five steps of R157. -/
theorem slotOffOp_reports : CarryReports slotOffOp := fun c n s => by
  have haborted : Reports s (s.abortQueued n) := (setQueue_reports s n _).trans (completeAll_reports _ _ _ _)
  have habandoned : Reports s (s.abandoned n) := ((haborted.trans (attentionOff_reports _ n)).trans
    (Reports.of_frame (removeEntry_frame _ n))).trans (residencyOff_reports _ n)
  rw [slotOffOp_eq]
  exact ((habandoned.trans (Reports.of_frame (victimPass_frame s n _))).answered c _ _).finished s

theorem pinSlot_reports (s : State) (n : Slot) : Reports s (s.pinSlot n) := by
  have hpinned := setSlot_reports s n { s.slot n with pin := true }
  dsimp only [State.pinSlot]
  split
  · exact hpinned.trans (gainReason_reports _ n _ _)
  · exact hpinned.trans (gainReason_reports _ n _ _)
  · exact hpinned.trans (setSlot_reports _ n _)
  · exact Reports.ite (fun _ => hpinned.trans (cancelDrain_reports _ n)) (fun _ => hpinned)
  all_goals exact hpinned

theorem unpinSlot_reports (s : State) (n : Slot) : Reports s (s.unpinSlot n) := by
  have hunpinned := setSlot_reports s n { s.slot n with pin := false }
  dsimp only [State.unpinSlot]
  split
  · exact hunpinned.trans (Reports.of_frame (withdrawReason_frame _ n _))
  · exact hunpinned.trans (Reports.of_frame (withdrawReason_frame _ n _))
  · exact hunpinned.trans (Reports.of_frame (startIdleHold_frame _ n))
  all_goals exact hunpinned

theorem pinOp_reports : CarryReports pinOp := fun c n s =>
  Reports.ite (fun _ => respond_reports s c _ _) (fun _ => ((pinSlot_reports s n).answered c _ _).finished s)

theorem unpinOp_reports : CarryReports unpinOp := fun c n s =>
  Reports.ite (fun _ => ((unpinSlot_reports s n).answered c _ _).finished s) (fun _ => respond_reports s c _ _)

theorem slotClearOp_reports : CarryReports slotClearOp := fun c n s => by
  have hcleared : Reports s (s.cleared n) := (changeState_reports s n .off []).trans (setSlot_reports _ n _)
  have hslot : Reports s (s.clearSlot n) := by
    rw [clearSlot_eq]
    exact Reports.ite (fun _ => hcleared.trans (gainReason_reports _ n _ _)) (fun _ => hcleared)
  exact Reports.ite (fun _ => (hslot.answered c _ _).finished s) (fun _ => respond_reports s c _ _)

/-! ## The warm restart (R161, R163) -/

theorem restartOp_reports : CarryReports restartOp := fun c _ s => Reports.of_frame (restartOp_frame c s)

/-- The waiting notices go, and READY finds room behind the one in transmission (R163, R171). -/
theorem restartNotices_reports (s : State) : Reports s s.restartNotices := by
  refine Reports.of_notices (restartNotices_frame s) (fun hr hs => ?_)
  obtain ⟨hcap, -, -, hsent, -⟩ := hs
  have hlength : (s.notices.take s.noticesInTransmission).length = s.noticesInTransmission := by
    rw [List.length_take, Nat.min_eq_left hsent]
  exact raise_noticesSound (s := { s with notices := s.notices.take s.noticesInTransmission, lostCount := 0 }) _ hr
    ⟨hlength.le.trans (hsent.trans hcap), fun hne => absurd rfl hne, Nat.zero_le _, hlength.ge, fun _ => rfl⟩

theorem completeRestart_reports (s : State) (c : Taken) : Reports s (s.completeRestart c) := by
  have hrecords : ∀ (v : State) (n : Slot), Reports v (v.restartRecords n) := fun v n =>
    (setQueue_reports v n []).trans (completeAll_reports _ _ _ _)
  have hslots : ∀ (v : State) (n : Slot), Reports v (v.restartSlot n) := fun v n =>
    Reports.ite (fun _ => changeState_reports v n .off []) (fun _ => Reports.refl v)
  have hcleared : Reports s s.restartCleared :=
    ((restartNotices_reports s).trans (Reports.foldl hrecords allSlots _)).trans (Reports.of_frame (restartAborted_frame s))
  exact (hcleared.trans (Reports.foldl hslots allSlots _)).trans (Reports.of_frame (restartRest_frame _ c))

/-! ## The link -/

/-- A frame joins ingress where there is room, and is an overrun otherwise (R177). -/
theorem arrive_reports (s : State) (frame : List Byte) : Reports s (s.arrive frame) := by
  unfold State.arrive
  refine Reports.ite (fun hroom => ⟨rfl, rfl, fun _ => ?_, fun _ => id⟩) (fun _ => raiseLink_reports s _)
  show (s.ingress ++ [frame]).length ≤ Config.ingressSize
  simpa using hroom

theorem receptionEnd_reports (s : State) (bytes : List Byte) : Reports s (s.receptionEnd bytes) := by
  have hreceiver : ∀ r, Reports s { s with receiver := r } := fun _ => ⟨rfl, rfl, id, fun _ => id⟩
  unfold State.receptionEnd
  split
  · exact (hreceiver _).trans (raiseLink_reports _ _)
  · dsimp only
    split
    · exact (hreceiver .idle).trans (raiseLink_reports _ _)
    · exact (hreceiver .idle).trans (arrive_reports _ _)

/-- The oldest frame leaves ingress (R178). -/
theorem dequeue_reports (s : State) : Reports s { s with ingress := s.ingress.tail } := by
  refine ⟨rfl, rfl, fun hs => ?_, fun _ => id⟩
  show s.ingress.tail.length ≤ Config.ingressSize
  rw [List.length_tail]
  exact (Nat.sub_le _ _).trans hs

/-- The transmitter changes over, and what it sends stands in the queue. -/
theorem noticesSound_of_transmitter (hs : s.noticesSound) (hnotices : t.notices = s.notices) (hlost : t.lostCount = s.lostCount)
    (hhub : t.hub = s.hub) (hsent : t.noticesInTransmission ≤ s.notices.length) : t.noticesSound := by
  obtain ⟨hcap, hlostFull, hcount, -, hheld⟩ := hs
  have hrunning : t.running = s.running := by rw [State.running, State.running, hhub]
  rw [State.noticesSound, hnotices, hlost, hrunning]
  exact ⟨hcap, hlostFull, hcount, hsent, hheld⟩

theorem startResponse_reports (s : State) (item : ResponseItem) : Reports s (s.startResponse item) :=
  ⟨rfl, rfl, id, fun _ hs => noticesSound_of_transmitter hs rfl rfl rfl (Nat.zero_le _)⟩

theorem startNotice_reports (s : State) {x : Notice} {rest : List Notice} (h : s.notices = x :: rest) :
    Reports s (s.startNotice x) := by
  refine ⟨rfl, rfl, id, fun _ hs => noticesSound_of_transmitter hs rfl rfl rfl ?_⟩
  show 1 ≤ s.notices.length
  simp [h]

theorem choose_reports (s : State) : Reports s s.choose := by
  unfold State.choose
  split
  · exact Reports.refl s
  · exact startResponse_reports s _
  · rename_i hnotices
    exact startNotice_reports s hnotices
  · rename_i hnotices
    exact Reports.ite (fun _ => startResponse_reports s _) (fun _ => startNotice_reports s hnotices)

theorem responseSent_reports (s : State) : Reports s s.responseSent := by
  unfold State.responseSent
  dsimp only
  split <;> exact ⟨rfl, rfl, id, fun _ hs => noticesSound_of_transmitter hs rfl rfl rfl (Nat.zero_le _)⟩

/-- A sent notice leaves the queue, and NOTICES_LOST takes no more than the place that it frees (R170). -/
theorem noticeSent_reports (s : State) : Reports s s.noticeSent := by
  have htail : s.notices.tail.length = s.notices.length - 1 := List.length_tail
  dsimp only [State.noticeSent]
  refine Reports.ite (fun hnone => ⟨rfl, rfl, id, fun _ hs => ?_⟩) (fun hlost => ⟨rfl, rfl, id, fun _ hs => ?_⟩)
  · obtain ⟨hcap, -, hcount, -, hheld⟩ := hs
    refine ⟨?_, fun hne => absurd hnone hne, hcount, Nat.zero_le _, hheld⟩
    show s.notices.tail.length ≤ Config.noticeQueueSize
    omega
  · obtain ⟨hcap, hfull, -, -, -⟩ := hs
    have hlength : s.notices.length = 32 := hfull hlost
    refine ⟨?_, fun hne => absurd rfl hne, Nat.zero_le _, Nat.zero_le _, fun _ => rfl⟩
    simp only [List.length_append, List.length_singleton, htail, hlength]
    decide

end Sys2Proof.Machine
end

section
/-! Time, the notice queue and ingress: every command and every step, with what START and the three commands of the time base do (R166,
R167, R169, R177, R191). -/

set_option Elab.async false

namespace Sys2Proof.Machine

variable {s t : State} {n : Slot}

/-! ## The relation of a command -/

/-- From `s` to `t` no time has passed, and the notice queue and ingress keep to their laws, whether the hub is held or runs. -/
structure KeepsQueues (s t : State) : Prop where
  timeBase : t.timeBase = s.timeBase
  ingress : s.ingressSound → t.ingressSound
  notices : s.noticesSound → t.noticesSound

theorem KeepsQueues.refl (s : State) : KeepsQueues s s := ⟨rfl, id, id⟩

theorem Reports.keepsQueues (h : Reports s t) (hr : s.running = true) : KeepsQueues s t :=
  ⟨h.timeBase, h.ingress, h.notices hr⟩

theorem KeepsQueues.ite {p : Prop} [Decidable p] {u : State} (h : p → KeepsQueues s t) (k : ¬ p → KeepsQueues s u) :
    KeepsQueues s (if p then t else u) := by
  split
  · exact h ‹_›
  · exact k ‹_›

/-- A condition that no held hub meets. -/
theorem running_of_due {due : Bool} (hheld : s.running = false → due = false) (hdue : due = true) : s.running = true :=
  Bool.eq_true_of_not_eq_false (fun hr => by rw [hheld hr] at hdue; exact Bool.noConfusion hdue)

theorem event_keepsQueues {due : Bool} {effect : State → State} (h : event due s effect = .next t)
    (hheld : s.running = false → due = false) (he : Reports s (effect s)) : KeepsQueues s t := by
  injection h with h
  subst h
  exact KeepsQueues.ite (fun hdue => (he.finished s).keepsQueues (running_of_due hheld hdue)) (fun _ => KeepsQueues.refl s)

theorem quietEvent_keepsQueues {due : Bool} {effect : State → State} (h : quietEvent due s effect = .next t)
    (hheld : s.running = false → due = false) (he : Reports s (effect s)) : KeepsQueues s t := by
  injection h with h
  subst h
  exact KeepsQueues.ite (fun hdue => he.keepsQueues (running_of_due hheld hdue)) (fun _ => KeepsQueues.refl s)

/-! ## The commands -/

theorem takeHead_running {k : TakeKind} {c : Taken} {frame : List Byte} (h : s.takeHead k = some (c, frame)) :
    s.running = true := by
  refine Bool.eq_true_of_not_eq_false (fun hr => ?_)
  simp [State.takeHead, hr] at h

theorem CarryReports.take {α : Type} {k : TakeKind} {form : List Byte → Option α} {carry : Taken → α → State → State}
    (hc : CarryReports carry) (h : take k form carry s = .next t) : KeepsQueues s t := by
  injection h with h
  subst h
  split
  · exact KeepsQueues.refl s
  · rename_i c frame hhead
    refine ((dequeue_reports s).trans ?_).keepsQueues (takeHead_running hhead)
    unfold commonChecks
    split
    · exact respond_reports _ c _ _
    · exact Reports.ite (fun _ => respond_reports _ c _ _)
        (fun _ => Reports.ite (fun _ => respond_reports _ c _ _) (fun _ => hc c _ _))

/-- The pin of a held hub changes as well, and nothing is taken (R190). -/
theorem execSupplyLowChange_keepsQueues {b : Bool} (h : execSupplyLowChange b s = .next t) : KeepsQueues s t := by
  have hpin : ∀ d, Reports s { s with supplyLowPin := b, debounce := d } := fun d => Reports.of_frame (setPin_frame s b d)
  injection h with h
  subst h
  refine KeepsQueues.ite (fun _ => KeepsQueues.ite (fun hr => ?_) (fun _ => ⟨rfl, id, id⟩)) (fun _ => KeepsQueues.refl s)
  exact (Reports.ite (fun _ => (hpin none).trans (takeSupplyLevel_reports _)) (fun _ => hpin _)).keepsQueues hr

theorem execSupplyLowDebounceExpiry_keepsQueues (h : execSupplyLowDebounceExpiry s = .next t) : KeepsQueues s t :=
  quietEvent_keepsQueues h (fun hr => by simp [hr])
    (Reports.trans (t := { s with debounce := none }) ⟨rfl, rfl, id, fun _ => id⟩ (takeSupplyLevel_reports _))

/-- A line of a held hub changes as well, and nothing is taken (R190). -/
theorem execAtnChange_keepsQueues {active : Bool} (h : execAtnChange n active s = .next t) : KeepsQueues s t := by
  have hpin : Reports s { s with atnLines := s.atnLines.set n active } := Reports.of_frame (setAtnLines_frame s _)
  unfold execAtnChange at h
  split at h
  · injection h with h; subst h; exact KeepsQueues.refl s
  · split at h
    · rename_i hsenses
      injection h with h; subst h
      exact ((hpin.trans (lineChange_reports _ n active)).finished _).keepsQueues
        (running_of_due (fun hr => by simp [State.senses, hr]) hsenses)
    · injection h with h; subst h; exact ⟨rfl, id, id⟩

theorem execAttentionHoldoffExpiry_keepsQueues (h : execAttentionHoldoffExpiry n s = .next t) : KeepsQueues s t :=
  event_keepsQueues h (fun hr => by simp [State.holdoffDue, hr]) (Reports.ite
    (fun _ => ((setAtt_reports s n _).trans (setAtt_reports _ n _)).trans (startAction_reports _ n))
    (fun _ => (setAtt_reports s n _).trans (setAtt_reports _ n _)))

theorem execFrameArrival_keepsQueues {bytes : List Byte} (h : execFrameArrival bytes s = .next t) : KeepsQueues s t :=
  quietEvent_keepsQueues h (fun hr => by simp [hr]) (receptionEnd_reports s bytes)

theorem execFrameReceptionStart_keepsQueues (h : execFrameReceptionStart s = .next t) : KeepsQueues s t := by
  refine quietEvent_keepsQueues h id ?_
  split
  · exact ⟨rfl, rfl, id, fun _ => id⟩
  · exact raiseLink_reports s _

theorem execRestartCompletion_keepsQueues (h : execRestartCompletion s = .next t) : KeepsQueues s t := by
  injection h with h
  subst h
  split
  · rename_i hdue _
    exact (completeRestart_reports s _).keepsQueues (running_of_due (fun hr => by simp [hr]) hdue)
  · exact KeepsQueues.refl s

theorem execEvaluation_keepsQueues (h : execEvaluation s = .next t) : KeepsQueues s t :=
  event_keepsQueues h (fun hr => by simp [State.evaluationOpen, hr])
    ((Reports.of_frame (setEvaluationDue_frame s false)).trans (evaluate_reports _ _))

theorem execSelectionPass_keepsQueues (h : execSelectionPass s = .next t) : KeepsQueues s t :=
  event_keepsQueues h (fun hr => by simp [State.passOpen, hr])
    ((Reports.of_frame (setPassDue_frame s false)).trans (selectVictims_reports _ _))

theorem execStepCountdownExpiry_keepsQueues (h : execStepCountdownExpiry n s = .next t) : KeepsQueues s t :=
  event_keepsQueues h (fun hr => by simp [State.pollDue, hr])
    ((setSlot_reports s n _).trans (Reports.of_frame (askControl_frame _ n _)))

theorem execLimitCountdownExpiry_keepsQueues (h : execLimitCountdownExpiry n s = .next t) : KeepsQueues s t :=
  event_keepsQueues h (fun hr => by simp [State.limitDue, hr])
    (Reports.ite (fun _ => setSlot_reports s n _) (fun _ => enterFaulted_reports s n _))

theorem execIdleHoldExpiry_keepsQueues (h : execIdleHoldExpiry n s = .next t) : KeepsQueues s t :=
  event_keepsQueues h (fun hr => by simp [State.idleHoldRunning, hr]) (startDrain_reports s n _ _)

theorem execLifetimeExpiry_keepsQueues {r : Requester} {tag : Byte} (h : execLifetimeExpiry r tag s = .next t) :
    KeepsQueues s t := by
  unfold execLifetimeExpiry at h
  split at h
  · injection h with h; subst h; exact KeepsQueues.refl s
  · exact event_keepsQueues h id (((setQueue_reports s _ _).trans (handOff_reports _ _ _ _ _)).trans
      (Reports.of_frame (queueLeft_frame _ _)))

theorem execChainSelection_keepsQueues (h : execChainSelection s = .next t) : KeepsQueues s t :=
  event_keepsQueues h (fun hr => by simp [State.selectionOpen, hr]) (select_reports s)

theorem inPhase_held (p : AttemptPhase) (hr : s.running = false) : s.inPhase p = false := by simp [State.inPhase, hr]

theorem execCommandSent_keepsQueues (h : execCommandSent s = .next t) : KeepsQueues s t :=
  quietEvent_keepsQueues h (inPhase_held .sending) (toPhase_reports s _ _)

theorem execReplyStart_keepsQueues (h : execReplyStart s = .next t) : KeepsQueues s t :=
  quietEvent_keepsQueues h (inPhase_held .awaiting) (toPhase_reports s _ _)

theorem execReplyByteReceived_keepsQueues (h : execReplyByteReceived s = .next t) : KeepsQueues s t :=
  quietEvent_keepsQueues h (inPhase_held .receiving) (toPhase_reports s _ _)

theorem execResponseTimeoutExpiry_keepsQueues (h : execResponseTimeoutExpiry s = .next t) : KeepsQueues s t := by
  unfold execResponseTimeoutExpiry at h
  split at h
  · injection h with h; subst h; exact KeepsQueues.refl s
  · refine event_keepsQueues h (fun hr => by simp [hr]) ?_
    split
    · exact Reports.refl s
    · exact attemptEnd_reports s _ _
    · exact attemptEnd_reports s _ _

theorem execReplyEnd_keepsQueues {bytes : List Byte} (h : execReplyEnd bytes s = .next t) : KeepsQueues s t := by
  unfold execReplyEnd at h
  split at h
  · injection h with h; subst h; exact KeepsQueues.refl s
  · exact event_keepsQueues h (inPhase_held .receiving) (attemptEnd_reports s _ _)

theorem execOutputChoice_keepsQueues (h : execOutputChoice s = .next t) : KeepsQueues s t :=
  quietEvent_keepsQueues h (fun hr => by simp [hr]) (choose_reports s)

theorem execTransmissionEnd_keepsQueues (h : execTransmissionEnd s = .next t) : KeepsQueues s t := by
  injection h with h
  subst h
  split
  · rename_i hr _
    exact ((responseSent_reports s).finished s).keepsQueues hr
  · rename_i hr _
    exact (noticeSent_reports s).keepsQueues hr
  · exact KeepsQueues.refl s

/-! ## The commands that write the time base -/

theorem execTimeBaseAdvance_running (h : s.running = true) :
    execTimeBaseAdvance s = .next { s with timeBase := s.timeBase + 1 } := by
  simp only [execTimeBaseAdvance, quietEvent, h, if_true]

theorem execTimeBaseAdvance_held (h : s.running = false) : execTimeBaseAdvance s = .next s := by
  simp only [execTimeBaseAdvance, quietEvent, h, Bool.false_eq_true, if_false]

theorem execTimeBaseAdvance_capacities (h : execTimeBaseAdvance s = .next t) :
    (s.noticesSound → t.noticesSound) ∧ (s.ingressSound → t.ingressSound) := by
  cases hr : s.running with
  | true =>
    rw [execTimeBaseAdvance_running hr] at h
    injection h with h; subst h
    exact ⟨id, id⟩
  | false =>
    rw [execTimeBaseAdvance_held hr] at h
    injection h with h; subst h
    exact ⟨id, id⟩

/-- START with the hub in the hold (R191). -/
theorem execStart_held {cause : ResetCause} (h : s.hub = .held cause) :
    execStart s = .next { s with
      hub := .running, timeBase := 0, notices := [readyNotice cause], transmitter := .notice (noticeFrame (readyNotice cause)),
      responseRun := 0, debounce := if s.supplyLowPin then some 5 else none } := by
  simp only [execStart, h]

/-- READY stands alone in the queue and is in transmission; the hold has lost no notice (R167, R190). -/
theorem execStart_capacities (h : execStart s = .next t) :
    (s.noticesSound → t.noticesSound) ∧ (s.ingressSound → t.ingressSound) := by
  cases hhub : s.hub with
  | running =>
    simp only [execStart, hhub] at h
    injection h with h; subst h
    exact ⟨id, id⟩
  | held cause =>
    rw [execStart_held hhub] at h
    injection h with h; subst h
    refine ⟨fun hs => ?_, id⟩
    obtain ⟨-, -, hcount, -, hheld⟩ := hs
    have hnone : s.lostCount = 0 := hheld (by simp [State.running, hhub])
    have hone : [readyNotice cause].length ≤ Config.noticeQueueSize := by rw [List.length_singleton]; decide
    exact ⟨hone, fun hne => absurd hnone hne, hcount, le_refl 1, fun _ => hnone⟩

/-- A cold reset empties both queues (R190). -/
theorem execColdReset_capacities {cause : ResetCause} (h : execColdReset cause s = .next t) : t.noticesSound ∧ t.ingressSound := by
  injection h with h
  subst h
  exact ⟨⟨Nat.zero_le _, fun hne => absurd rfl hne, Nat.zero_le _, Nat.zero_le _, fun _ => rfl⟩, Nat.zero_le _⟩

/-! ## Every command, every step -/

/-- Every event but a reset, the start and the advance of the time base itself. -/
theorem exec_keepsQueues (c : Instr) (hreset : ∀ k, c ≠ .coldReset k) (hstart : c ≠ .start) (hadvance : c ≠ .timeBaseAdvance)
    (h : exec c s = .next t) : KeepsQueues s t := by
  cases c with
  | coldReset k => exact absurd rfl (hreset k)
  | start => exact absurd rfl hstart
  | timeBaseAdvance => exact absurd rfl hadvance
  | supplyLowChange => exact execSupplyLowChange_keepsQueues h
  | supplyLowDebounceExpiry => exact execSupplyLowDebounceExpiry_keepsQueues h
  | atnChange => exact execAtnChange_keepsQueues h
  | attentionHoldoffExpiry => exact execAttentionHoldoffExpiry_keepsQueues h
  | frameArrival => exact execFrameArrival_keepsQueues h
  | read => exact admitData_reports.take h
  | write => exact admitData_reports.take h
  | writePosted => exact admitData_reports.take h
  | readEntry => exact readEntryOp_reports.manage.take h
  | writeEntryUnit => exact writeUnitOp_reports.manage.take h
  | writeEntryRequester => exact writeRequesterOp_reports.manage.take h
  | writeEntryProfile => exact writeProfileOp_reports.manage.take h
  | writeEntryChain => exact writeChainOp_reports.manage.take h
  | writeEntryBudget => exact writeBudgetOp_reports.manage.take h
  | findUnit => exact findUnitOp_reports.manage.take h
  | readSlot => exact answer_reports.withSlot.manage.take h
  | readQueue => exact answer_reports.withSlot.manage.take h
  | readBudget => exact answer_reports.manage.take h
  | slotWake => exact slotWakeOp_reports.manage.take h
  | slotRest => exact slotRestOp_reports.withSlot.manage.take h
  | slotOff => exact slotOffOp_reports.withSlot.manage.take h
  | pin => exact pinOp_reports.withSlot.manage.take h
  | unpin => exact unpinOp_reports.withSlot.manage.take h
  | slotClear => exact slotClearOp_reports.withSlot.manage.take h
  | readFault => exact readFaultOp_reports.manage.take h
  | clearFault => exact clearFaultOp_reports.manage.take h
  | restart => exact restartOp_reports.manage.take h
  | restartCompletion => exact execRestartCompletion_keepsQueues h
  | evaluation => exact execEvaluation_keepsQueues h
  | selectionPass => exact execSelectionPass_keepsQueues h
  | stepCountdownExpiry => exact execStepCountdownExpiry_keepsQueues h
  | limitCountdownExpiry => exact execLimitCountdownExpiry_keepsQueues h
  | idleHoldExpiry => exact execIdleHoldExpiry_keepsQueues h
  | lifetimeExpiry => exact execLifetimeExpiry_keepsQueues h
  | chainSelection => exact execChainSelection_keepsQueues h
  | commandSent => exact execCommandSent_keepsQueues h
  | replyStart => exact execReplyStart_keepsQueues h
  | responseTimeoutExpiry => exact execResponseTimeoutExpiry_keepsQueues h
  | replyEnd => exact execReplyEnd_keepsQueues h
  | outputChoice => exact execOutputChoice_keepsQueues h
  | transmissionEnd => exact execTransmissionEnd_keepsQueues h
  | frameReceptionStart => exact execFrameReceptionStart_keepsQueues h
  | replyByteReceived => exact execReplyByteReceived_keepsQueues h

theorem exec_capacities (c : Instr) (h : exec c s = .next t) :
    (s.noticesSound → t.noticesSound) ∧ (s.ingressSound → t.ingressSound) := by
  by_cases hreset : ∃ k, c = .coldReset k
  · obtain ⟨k, rfl⟩ := hreset
    obtain ⟨hnotices, hingress⟩ := execColdReset_capacities h
    exact ⟨fun _ => hnotices, fun _ => hingress⟩
  by_cases hstart : c = .start
  · subst hstart
    exact execStart_capacities h
  by_cases hadvance : c = .timeBaseAdvance
  · subst hadvance
    exact execTimeBaseAdvance_capacities h
  have hkeeps := exec_keepsQueues c (fun k hk => hreset ⟨k, hk⟩) hstart hadvance h
  exact ⟨hkeeps.notices, hkeeps.ingress⟩

/-- Settles O57: every command but three by `exec_keepsQueues`, those three by their own lemmas; an empty queue of commands idles. -/
theorem stepKeepsQueueCapacities : Obligations.StepKeepsQueueCapacities := by
  unfold Obligations.StepKeepsQueueCapacities
  intro s t h
  unfold step at h
  split at h
  · injection h with h; subst h; exact ⟨id, id⟩
  · rename_i c rest _
    exact exec_capacities (s := { s with pending := rest }) c h

/-- Settles O5: the advance itself, and `exec_keepsQueues` for every other event. -/
theorem timeBaseAdvancesAndWraps : Obligations.TimeBaseAdvancesAndWraps := by
  refine ⟨fun s hr => ⟨execTimeBaseAdvance_running hr, fun hmax => ?_⟩,
    fun c s t hreset hstart hadvance h => (exec_keepsQueues c hreset hstart hadvance h).timeBase⟩
  rw [hmax]
  rfl

/-- Settles O4: READY is the notice that `execStart` creates in the hold. -/
theorem startSendsReady : Obligations.StartSendsReady := fun _ _ hheld => execStart_held hheld

end Sys2Proof.Machine
end

section
/-! The fault record and the lost notices (R160, R170, R173, R174). -/

set_option Elab.async false

namespace Sys2Proof.Machine

variable {s : State} {c : Taken} {serial : Byte}

/-! ## CLEAR_FAULT (R160, R174) -/

theorem clearFaultOp_stale (h : serial ≠ s.fault.serial) : clearFaultOp c serial s = s.respond c .stale [] := by
  rw [clearFaultOp, if_pos h]

theorem clearFaultOp_empty (h : serial = s.fault.serial) (hempty : s.fault.latched = none) :
    clearFaultOp c serial s = s.respond c .ok [] := by
  rw [clearFaultOp, if_neg (not_not_intro h), if_pos hempty]

/-- The serial stays, so that a second clear with it finds the record empty. -/
theorem clearFaultOp_latched (h : serial = s.fault.serial) (hlatched : s.fault.latched ≠ none) :
    clearFaultOp c serial s =
      ({ s with fault := { latched := none, serial := serial, overflow := 0 } } : State).respond c .ok [] := by
  rw [clearFaultOp, if_neg (not_not_intro h), if_neg hlatched, h]

/-- The next fault latches in an empty record, with the serial one higher (R173). -/
theorem FaultRecord.take_empty {f : FaultRecord} (h : f.latched = none) (l : LatchedFault) :
    f.take l = { latched := some l, serial := f.serial + 1, overflow := 0 } := by
  simp only [FaultRecord.take, h]

/-- Settles O34: the three branches of `clearFaultOp`, `FaultRecord.take_empty` for the next fault, and the reset value of the record. -/
theorem clearFaultGoesBySerial : Obligations.ClearFaultGoesBySerial := by
  refine ⟨fun serial frame rest c s hdue hkind hform hman => ?_, fun f l hempty => FaultRecord.take_empty hempty l,
    fun cause s => ⟨_, rfl, rfl⟩⟩
  have hexec : exec .clearFault s = .next (clearFaultOp c serial (s.unqueued rest)) :=
    take_managed s hdue hkind _ hform hman clearFaultOp
  rw [hexec]
  exact ⟨fun hstale => congrArg _ (clearFaultOp_stale hstale),
    fun hserial hempty => congrArg _ (clearFaultOp_empty hserial hempty),
    fun hserial hlatched => congrArg _ (clearFaultOp_latched hserial hlatched)⟩

/-! ## The end of a notice's transmission (R170, R182) -/

theorem execTransmissionEnd_notice {frame : List Byte} (hr : s.running = true) (ht : s.transmitter = .notice frame) :
    execTransmissionEnd s = .next s.noticeSent := by
  simp only [execTransmissionEnd, hr, ht]

theorem noticeSent_none (h : s.lostCount = 0) : s.noticeSent = { s with transmitter := .idle, notices := s.notices.tail } := by
  simp only [State.noticeSent, h, if_true]

/-- NOTICES_LOST carries the count and the stamp of the first loss. -/
theorem noticeSent_lost (h : s.lostCount ≠ 0) : s.noticeSent = { s with
    transmitter := .idle
    notices := s.notices.tail ++
      [{ s.blankNotice .noticesLost with count := s.lostCount, data := word32 s.firstLoss }]
    lostCount := 0 } := by
  simp only [State.noticeSent, h, if_false]
  rfl

/-- The first drop since the count was 0 (R169). -/
theorem dropNotice_first (h : s.lostCount = 0) : s.dropNotice = { s with lostCount := 1, firstLoss := s.timeBase } := by
  simp [State.dropNotice, h]

/-- Settles O54: `State.noticeSent` by the lost count, and the first drop of a new count. -/
theorem lostNoticesAreReported : Obligations.LostNoticesAreReported := by
  refine ⟨fun x rest frame s hr ht hqueue => ?_, fun x s hnone hfull => ?_⟩
  · have hexec : exec .transmissionEnd s = .next s.noticeSent := execTransmissionEnd_notice hr ht
    have htail : s.notices.tail = rest := by rw [hqueue, List.tail_cons]
    rw [hexec, ← htail]
    exact ⟨fun hnone => congrArg _ (noticeSent_none hnone), fun hlost => congrArg _ (noticeSent_lost hlost)⟩
  · rw [raise_full s x hfull, dropNotice_first hnone]

end Sys2Proof.Machine
end

section
/-! Reception: what ends a frame, which REQUEST bodies are good, and what their arrival leaves (R176, R177, R184). -/

set_option Elab.async false

namespace Sys2Proof.Machine

variable {s t : State}

/-! ## A frame as R184 has it sent -/

/-- A byte that is sent escaped is received as itself. -/
theorem receive_escapeByte {body : List Byte} (h : body.length < 45) (b : Byte) (rest : List Byte) :
    receive body false (escapeByte b ++ rest) = receive (b :: body) false rest := by
  have hroom : body.length ≠ 45 := Nat.ne_of_lt h
  by_cases hopen : b = 0xA5#8
  · subst hopen; simp [escapeByte, receive, hroom]
  by_cases hclose : b = 0x5A#8
  · subst hclose; simp [escapeByte, receive, hroom]
  by_cases hescape : b = 0x55#8
  · subst hescape; simp [escapeByte, receive, hroom]
  · simp [escapeByte, receive, hroom, hopen, hclose, hescape]

/-- Up to 45 bytes are received as they were before the escaping. -/
theorem receive_escaped (rest : List Byte) : ∀ (l body : List Byte), body.length + l.length ≤ 45 →
    receive body false (l.flatMap escapeByte ++ rest) = receive (l.reverse ++ body) false rest
  | [], _, _ => rfl
  | b :: l, body, h => by
    rw [List.length_cons] at h
    have hlater : (b :: body).length + l.length ≤ 45 := by rw [List.length_cons]; omega
    rw [List.flatMap_cons, List.append_assoc, receive_escapeByte (by omega) b, receive_escaped rest l _ hlater,
      List.reverse_cons, List.append_assoc, List.singleton_append]

theorem receive_closing (body : List Byte) : receive body false [0x5A] = .closed body.reverse := rfl

/-- What is received of a frame is its body with the check. -/
theorem receive_linkFrame (kind : Byte) {contents : List Byte} (h : contents.length ≤ 42) :
    receive [] false (linkFrame kind contents).tail =
      .closed (kind :: contents ++ word16 (crc16 (kind :: contents)).toNat) := by
  have hlength : (kind :: contents ++ word16 (crc16 (kind :: contents)).toNat).length ≤ 45 := by
    simp only [List.length_append, List.length_cons, word16, List.length_nil]; omega
  rw [linkFrame, List.tail_cons, receive_escaped _ _ [] (by simpa using hlength), receive_closing, List.append_nil,
    List.reverse_reverse]

/-! ## Good bodies and bad ones (R176) -/

/-- The check agrees, and the requester is one of the eight. -/
theorem requestContents_request {r : Byte} (h : r.toNat < 8) (tag : Byte) (rest : List Byte) :
    requestContents (0x01 :: r :: tag :: rest ++ word16 (crc16 (0x01 :: r :: tag :: rest)).toNat) = some (r :: tag :: rest) := by
  have hlength : (0x01 :: r :: tag :: rest ++ word16 (crc16 (0x01 :: r :: tag :: rest)).toNat).length =
      (0x01 :: r :: tag :: rest).length + 2 := List.length_append
  have hlong : ¬ (0x01 :: r :: tag :: rest).length + 2 < 3 := by rw [List.length_cons]; omega
  simp only [requestContents, hlength, hlong, if_false, Nat.add_sub_cancel, List.take_left, List.drop_left, ne_eq,
    not_true_eq_false]
  exact if_pos h

/-- A good body holds a kind, a requester and a tag before its check; the check agrees, the kind is REQUEST, and the requester is
one of the eight. -/
theorem requestContents_good {body frame : List Byte} (h : requestContents body = some frame) :
    5 ≤ body.length ∧ body.drop (body.length - 2) = word16 (crc16 (body.take (body.length - 2))).toNat ∧
      body.head? = some 0x01 ∧ ∃ r, body[1]? = some r ∧ r.toNat < 8 := by
  unfold requestContents at h
  dsimp only at h
  split at h
  · exact absurd h (by simp)
  split at h
  · exact absurd h (by simp)
  rename_i hlong hcheck
  split at h
  · rename_i r tag rest htake
    split at h
    · rename_i hrequester
      have hbody : body = 1#8 :: r :: tag :: rest ++ body.drop (body.length - 2) := by
        rw [← htake, List.take_append_drop]
      have hlength : 3 ≤ (body.take (body.length - 2)).length := by rw [htake]; simp
      rw [List.length_take] at hlength
      exact ⟨by omega, not_not.mp hcheck, by rw [hbody]; rfl, r, by rw [hbody]; rfl, hrequester⟩
    · exact absurd h (by simp)
  · exact absurd h (by simp)

/-! ## What a reception leaves -/

/-- The receiver changes over, and an occurrence is raised: nothing else changes. -/
theorem raiseLink_received {r : Receiver} {kind : NoticeKind} (h : ({ s with receiver := r } : State).raiseLink kind = t) :
    t.receiver = r ∧ OccurrenceRaised kind s t ∧ Unchanged [.receiver, .notices, .lostCount, .firstLoss] s t := by
  subst h
  have hreceiver : Unchanged [.receiver] s { s with receiver := r } := by
    intro f hf; cases f <;> first | rfl | exact absurd (by decide) hf
  have hraised := raiseLink_frame { s with receiver := r } kind
  exact ⟨(hraised .receiver (by decide) : _ = State.receiver _).symm, raiseLink_raised { s with receiver := r } kind,
    hreceiver.andThen hraised (by decide) (by decide)⟩

theorem receptionEnd_bad {bytes : List Byte} {reopened : Bool} (h : receive [] false bytes = .bad reopened) :
    s.receptionEnd bytes =
      ({ s with receiver := if reopened then .receiving else .idle } : State).raiseLink .linkCheck := by
  rw [State.receptionEnd, h]

theorem receptionEnd_refused {bytes body : List Byte} (h : receive [] false bytes = .closed body)
    (hbad : requestContents body = none) :
    s.receptionEnd bytes = ({ s with receiver := .idle } : State).raiseLink .linkCheck := by
  simp only [State.receptionEnd, h, hbad]

theorem receptionEnd_good {bytes body frame : List Byte} (h : receive [] false bytes = .closed body)
    (hgood : requestContents body = some frame) : s.receptionEnd bytes = ({ s with receiver := .idle } : State).arrive frame := by
  simp only [State.receptionEnd, h, hgood]

theorem arrive_room (frame : List Byte) (h : s.ingress.length < 8) :
    s.arrive frame = { s with ingress := s.ingress ++ [frame] } := if_pos h

theorem arrive_full (frame : List Byte) (h : 8 ≤ s.ingress.length) : s.arrive frame = s.raiseLink .ingressOverrun :=
  if_neg (Nat.not_lt.mpr h)

theorem execFrameArrival_receiving (hr : s.running = true) (hv : s.receiver = .receiving) (bytes : List Byte) :
    execFrameArrival bytes s = .next (s.receptionEnd bytes) := by
  simp only [execFrameArrival, quietEvent, hr, hv, beq_self_eq_true, Bool.and_self, if_true]

/-- FRAME_ARRIVAL of a good frame: it joins ingress, or overruns it (R176, R177). -/
theorem frameArrival_good {bytes body frame : List Byte} (hr : s.running = true) (hv : s.receiver = .receiving)
    (h : receive [] false bytes = .closed body) (hgood : requestContents body = some frame) :
    (s.ingress.length < 8 →
      exec (.frameArrival bytes) s = .next { s with receiver := .idle, ingress := s.ingress ++ [frame] }) ∧
    (8 ≤ s.ingress.length → ∃ t, exec (.frameArrival bytes) s = .next t ∧ t.receiver = .idle ∧
      OccurrenceRaised .ingressOverrun s t ∧ Unchanged [.receiver, .notices, .lostCount, .firstLoss] s t) := by
  have hexec : exec (.frameArrival bytes) s = .next (({ s with receiver := .idle } : State).arrive frame) :=
    (execFrameArrival_receiving hr hv bytes).trans (congrArg _ (receptionEnd_good h hgood))
  rw [hexec]
  exact ⟨fun hroom => congrArg _ (arrive_room frame hroom),
    fun hfull => ⟨_, rfl, raiseLink_received (arrive_full (s := { s with receiver := .idle }) frame hfull).symm⟩⟩

/-- Settles O11: `receive_linkFrame` reads the frame back, `requestContents_request` finds it good, and `frameArrival_good` says
where it goes. -/
theorem goodFrameReachesIngress : Obligations.GoodFrameReachesIngress := by
  intro r tag rest s hrequester hlength hr hv
  have hcontents : (r :: tag :: rest).length ≤ 42 := by simp only [List.length_cons]; omega
  exact frameArrival_good hr hv (receive_linkFrame 0x01 hcontents) (requestContents_request hrequester tag rest)

/-- A body with one of the four faults is not good. -/
theorem requestContents_faulty {body : List Byte}
    (h : body.length < 5 ∨ body.drop (body.length - 2) ≠ word16 (crc16 (body.take (body.length - 2))).toNat ∨
      body.head? ≠ some 0x01 ∨ (∀ r, body[1]? = some r → 8 ≤ r.toNat)) : requestContents body = none := by
  rw [Option.eq_none_iff_forall_ne_some]
  intro frame hgood
  obtain ⟨hlong, hcheck, hkind, r, hrequester, hrange⟩ := requestContents_good hgood
  rcases h with hshort | hmismatch | hother | hbeyond
  · exact absurd hlong (Nat.not_le.mpr hshort)
  · exact hmismatch hcheck
  · exact hother hkind
  · exact absurd hrange (Nat.not_lt.mpr (hbeyond r hrequester))

theorem execFrameReceptionStart_idle (hr : s.running = true) (hv : s.receiver = .idle) :
    execFrameReceptionStart s = .next { s with receiver := .receiving } := by
  simp only [execFrameReceptionStart, quietEvent, hr, hv, if_true]

theorem execFrameReceptionStart_receiving (hr : s.running = true) (hv : s.receiver = .receiving) :
    execFrameReceptionStart s = .next (s.raiseLink .linkCheck) := by
  simp only [execFrameReceptionStart, quietEvent, hr, hv, if_true]

/-- Settles O12: the two branches of `execFrameReceptionStart`, and of `State.receptionEnd` those that end in LINK_CHECK; a body with
one of the four faults is not good, by `requestContents_faulty`. -/
theorem badFrameRaisesLinkCheck : Obligations.BadFrameRaisesLinkCheck := by
  refine ⟨fun s hr => ⟨execFrameReceptionStart_idle hr, fun hv => ?_⟩, fun bytes s hr hv => ?_⟩
  · exact ⟨_, execFrameReceptionStart_receiving hr hv, raiseLink_raised s _, raiseLink_frame s _⟩
  · have hexec : exec (.frameArrival bytes) s = .next (s.receptionEnd bytes) := execFrameArrival_receiving hr hv bytes
    exact ⟨fun reopened hbad => ⟨_, hexec, raiseLink_received (receptionEnd_bad hbad).symm⟩,
      fun body hclosed hfault =>
        ⟨_, hexec, raiseLink_received (receptionEnd_refused hclosed (requestContents_faulty hfault)).symm⟩⟩

end Sys2Proof.Machine
end

section
/-! Ingress under the hub's shared operations and under its arbiter, chain and transmitter: none of them touches it (R177). -/

set_option Elab.async false

namespace Sys2Proof.Machine

variable {s t : State} {n : Slot}

/-! ## Shared operations -/

theorem Unchanged.ingress {a : List Field} (f : Unchanged a s t) (ha : Field.ingress ∉ a := by decide) :
    t.ingress = s.ingress := (f .ingress ha : s.ingress = _).symm

@[simp] theorem respond_ingress (s : State) (c : Taken) (st : Status) (d : List Byte) :
    (s.respond c st d).ingress = s.ingress := rfl

@[simp] theorem freed_ingress (s : State) : s.freed.ingress = s.ingress := rfl

@[simp] theorem finish_ingress (s t : State) : (s.finish t).ingress = t.ingress := (finish_frame s t).ingress

@[simp] theorem raiseLink_ingress (s : State) (kind : NoticeKind) : (s.raiseLink kind).ingress = s.ingress :=
  (raiseLink_frame s kind).ingress

@[simp] theorem limitSet_ingress (s : State) (old : Nat) (c : ActivationCause) : (s.limitSet old c).ingress = s.ingress :=
  (limitSet_frame s old c).ingress

@[simp] theorem changeState_ingress (s : State) (n : Slot) (new : SlotState) (extra : List Byte) :
    (s.changeState n new extra).ingress = s.ingress := (changeState_frame s n new extra).ingress

@[simp] theorem gainReason_ingress (s : State) (n : Slot) (why : WakeReason) (l : Level) :
    (s.gainReason n why l).ingress = s.ingress := (gainReason_frame s n why l).ingress

@[simp] theorem withdrawReason_ingress (s : State) (n : Slot) (why : WakeReason) :
    (s.withdrawReason n why).ingress = s.ingress := (withdrawReason_frame s n why).ingress

@[simp] theorem askControl_ingress (s : State) (n : Slot) (c : ChainCommand) : (s.askControl n c).ingress = s.ingress :=
  (askControl_frame s n c).ingress

@[simp] theorem loadPoll_ingress (s : State) (n : Slot) (p : StepPurpose) (ms : Nat) : (s.loadPoll n p ms).ingress = s.ingress :=
  (loadPoll_frame s n p ms).ingress

@[simp] theorem startIdleHold_ingress (s : State) (n : Slot) : (s.startIdleHold n).ingress = s.ingress :=
  (startIdleHold_frame s n).ingress

@[simp] theorem endAction_ingress (s : State) (n : Slot) (st : Status) (d : List Byte) (h : Bool) :
    (s.endAction n st d h).ingress = s.ingress := (endAction_frame s n st d h).ingress

@[simp] theorem startAction_ingress (s : State) (n : Slot) : (s.startAction n).ingress = s.ingress :=
  (startAction_frame s n).ingress

@[simp] theorem activation_ingress (s : State) (n : Slot) : (s.activation n).ingress = s.ingress := (activation_frame s n).ingress

@[simp] theorem handOff_ingress (s : State) (r : Record) (st : Status) (d : List Byte) (h : Bool) :
    (s.handOff r st d h).ingress = s.ingress := (handOff_frame s r st d h).ingress

@[simp] theorem joinQueue_ingress (s : State) (n : Slot) (r : Record) : (s.joinQueue n r).ingress = s.ingress :=
  (joinQueue_frame s n r).ingress

@[simp] theorem cancelDrain_ingress (s : State) (n : Slot) : (s.cancelDrain n).ingress = s.ingress := (cancelDrain_frame s n).ingress

@[simp] theorem startDrain_ingress (s : State) (n : Slot) (c : DrainCause) (m : RestMode) :
    (s.startDrain n c m).ingress = s.ingress := (startDrain_frame s n c m).ingress

@[simp] theorem switchOff_ingress (s : State) (n : Slot) (k : SwitchOffKind) : (s.switchOff n k).ingress = s.ingress :=
  (switchOff_frame s n k).ingress

@[simp] theorem towardsRest_ingress (s : State) (n : Slot) : (s.towardsRest n).ingress = s.ingress := (towardsRest_frame s n).ingress

@[simp] theorem enterOff_ingress (s : State) (n : Slot) (x : Bool) : (s.enterOff n x).ingress = s.ingress :=
  (enterOff_frame s n x).ingress

@[simp] theorem enterSlumber_ingress (s : State) (n : Slot) (x : Bool) : (s.enterSlumber n x).ingress = s.ingress :=
  (enterSlumber_frame s n x).ingress

@[simp] theorem reportFault_ingress (s : State) (n : Slot) (k : FaultKind) (who : Option (Requester × Byte)) (x : NoticeKind)
    (c : Cause) : (s.reportFault n k who x c).ingress = s.ingress := (reportFault_frame s n k who x c).ingress

@[simp] theorem enterFaulted_ingress (s : State) (n : Slot) (k : FaultKind) : (s.enterFaulted n k).ingress = s.ingress :=
  (enterFaulted_frame s n k).ingress

/-! ## The Budget Arbiter -/

theorem takeSupplyLevel_ingress (s : State) : s.takeSupplyLevel.ingress = s.ingress := by
  unfold State.takeSupplyLevel
  split <;> simp

theorem evaluate_ingress : ∀ (fuel : Nat) (s : State), (State.evaluate fuel s).ingress = s.ingress
  | 0, _ => rfl
  | fuel + 1, s => by
    rw [evaluate_succ]
    split
    · rfl
    split
    · rw [evaluate_ingress fuel, (grant_frame s _).ingress]
    split
    · rfl
    split
    · rw [(Unchanged.foldl evict_frame _ _).ingress]
    split
    · split
      · rw [evaluate_ingress fuel, (grant_frame _ _).ingress, (countPass_frame s _).ingress]
      · rfl
    · rfl

theorem selectVictims_ingress : ∀ (fuel : Nat) (s : State), (State.selectVictims fuel s).ingress = s.ingress
  | 0, _ => rfl
  | fuel + 1, s => by
    have hvictim : ∀ n, (s.selectVictim n).ingress = s.ingress := fun n =>
      (selectVictim_frame s n).ingress.trans (shedSlot_frame s n).ingress
    rw [selectVictims_succ]
    split
    · rfl
    split
    · rfl
    split
    · rw [(endShedding_frame _ _).ingress, hvictim]
    · rw [selectVictims_ingress fuel, hvictim]

/-! ## The chain -/

theorem select_ingress (s : State) : s.select.ingress = s.ingress := by
  unfold State.select
  split
  · unfold State.startControl
    split <;> simp
  · split
    · unfold State.dispatch
      split <;> rfl
    · rfl

theorem dataEnd_ingress (s : State) (n : Slot) (o : AttemptOutcome) : (s.dataEnd n o).ingress = s.ingress := by
  cases hq : s.queue n with
  | nil => rw [dataEnd_nil o hq]
  | cons r rest =>
    have hdone := (dataDone_frame s n r rest o).ingress
    rw [dataEnd_done hq]
    split <;> simp [hdone]

theorem beginSensing_ingress (s : State) (n : Slot) : (s.beginSensing n).ingress = s.ingress := by
  dsimp only [State.beginSensing]
  split
  · rw [activation_ingress]; rfl
  · rfl

theorem enterAwake_ingress (s : State) (n : Slot) (identity : List Byte) : (s.enterAwake n identity).ingress = s.ingress := by
  dsimp only [State.enterAwake]
  rw [startIdleHold_ingress]
  split
  · rw [beginSensing_ingress, changeState_ingress]
  · split <;> simp

theorem identifyEnd_ingress (s : State) (n : Slot) (o : AttemptOutcome) : (s.identifyEnd n o).ingress = s.ingress := by
  dsimp only [State.identifyEnd]
  split
  · exact enterOff_ingress s n _
  · split
    · split
      · exact enterAwake_ingress s n _
      · exact enterFaulted_ingress s n _
    · split <;> simp

theorem wakeEnd_ingress (s : State) (n : Slot) : (s.wakeEnd n).ingress = s.ingress := by
  dsimp only [State.wakeEnd]
  split <;> simp

theorem slumberEnd_ingress (s : State) (n : Slot) (o : AttemptOutcome) : (s.slumberEnd n o).ingress = s.ingress := by
  unfold State.slumberEnd
  split
  · rfl
  · split <;> simp

theorem exchangeEnd_ingress (s : State) (e : Exchange) (o : AttemptOutcome) : (s.exchangeEnd e o).ingress = s.ingress := by
  rw [exchangeEnd_eq]
  cases e.command with
  | read | write => exact dataEnd_ingress _ _ o
  | slumber => exact slumberEnd_ingress _ _ o
  | wake => exact wakeEnd_ingress _ _
  | identify => exact identifyEnd_ingress _ _ o

theorem attemptEnd_ingress (s : State) (e : Exchange) (o : AttemptOutcome) : (s.attemptEnd e o).ingress = s.ingress := by
  have hcounted : (s.counted e o).ingress = s.ingress := rfl
  rw [attemptEnd_eq]
  split
  · rw [enterFaulted_ingress, freed_ingress, hcounted]
  split
  · rw [(retry_frame _ e).ingress, hcounted]
  · rw [exchangeEnd_ingress, hcounted]

/-! ## Attention lines -/

theorem lineChange_ingress (s : State) (n : Slot) (active : Bool) : (s.lineChange n active).ingress = s.ingress := by
  dsimp only [State.lineChange]
  split
  · rw [activation_ingress]; rfl
  · rfl
  · rw [(deactivation_frame _ n).ingress]; rfl

/-! ## The warm restart and the transmitter -/

/-- What the completion of a restart can change. -/
theorem completeRestart_frame (s : State) (c : Taken) : Unchanged [.slots, .useOrder, .committed, .wake, .joinCounter, .evictionSet,
    .evaluationDue, .passDue, .shedding, .queues, .claims, .control, .attention, .notices, .lostCount, .firstLoss, .restart,
    .stopped, .taking, .immediate, .responses] s (s.completeRestart c) :=
  (restartOff_total s).andThen (restartRest_frame s.restartOff c) (by decide) (by decide)

theorem choose_ingress (s : State) : s.choose.ingress = s.ingress := by
  unfold State.choose
  split
  · rfl
  · rfl
  · rfl
  · split <;> rfl

theorem responseSent_ingress (s : State) : s.responseSent.ingress = s.ingress := by
  dsimp only [State.responseSent]
  split <;> rfl

theorem noticeSent_ingress (s : State) : s.noticeSent.ingress = s.ingress := by
  dsimp only [State.noticeSent]
  split <;> rfl

end Sys2Proof.Machine
end

section
/-! Takes: what the answers and the operation of a request leave alone, the take leaves alone but for the frame it takes (R178). -/

set_option Elab.async false

namespace Sys2Proof.Machine

variable {s t : State} {n : Slot} {α β : Type} {observe : State → β}

/-! ## Takes and what they carry out -/

/-- A take does nothing, or hands the oldest frame to the checks. -/
theorem take_cases {k : TakeKind} {form : List Byte → Option α} {carry : Taken → α → State → State}
    (h : take k form carry s = .next t) :
    t = s ∨ ∃ c frame, s.takeHead k = some (c, frame) ∧
      t = commonChecks c (form frame) carry { s with ingress := s.ingress.tail } := by
  injection h with h
  subst h
  cases hhead : s.takeHead k with
  | none => exact Or.inl rfl
  | some p => exact Or.inr ⟨p.1, p.2, rfl, rfl⟩

/-- What a taken frame carries out leaves alone what `observe` reads of the state. -/
def CarryLeaves (observe : State → β) (carry : Taken → α → State → State) : Prop :=
  ∀ c a s, observe (carry c a s) = observe s

/-- An answer leaves alone what `observe` reads of the state: every refusal of a take is an answer. -/
def AnswerLeaves (observe : State → β) : Prop := ∀ s c st d, observe (State.respond s c st d) = observe s

theorem CarryLeaves.manage {op : Taken → α → State → State} (hop : CarryLeaves observe op) (hanswer : AnswerLeaves observe) :
    CarryLeaves observe (manage op) := fun c a s => by
  unfold Machine.manage
  split
  · exact hanswer s c _ _
  · exact hop c a s

theorem CarryLeaves.withSlot {op : Taken → Slot → State → State} (hop : CarryLeaves observe op) (hanswer : AnswerLeaves observe) :
    CarryLeaves observe (withSlot op) := fun c b s => by
  unfold Machine.withSlot
  split
  · exact hanswer s c _ _
  · exact hop c _ s

theorem commonChecks_leaves {carry : Taken → α → State → State} (hcarry : CarryLeaves observe carry)
    (hanswer : AnswerLeaves observe) (c : Taken) (form : Option α) (s : State) :
    observe (commonChecks c form carry s) = observe s := by
  unfold commonChecks
  split
  · exact hanswer s c _ _
  split
  · exact hanswer s c _ _
  split
  · exact hanswer s c _ _
  · exact hcarry c _ s

/-! ## Ingress under the operations of the requests -/

theorem ingress_answerLeaves : AnswerLeaves State.ingress := respond_ingress

theorem admitData_ingress : CarryLeaves State.ingress admitData := fun c q s => by
  unfold admitData
  split
  · rfl
  · dsimp only
    split <;> simp

theorem readEntryOp_ingress : CarryLeaves State.ingress readEntryOp := fun c a s => by
  unfold readEntryOp
  split <;> rfl

theorem writeUnitOp_ingress : CarryLeaves State.ingress writeUnitOp := fun c a s => by
  unfold writeUnitOp
  split
  · split
    · rfl
    · split <;> rfl
  · rfl

theorem writeRequesterOp_ingress : CarryLeaves State.ingress writeRequesterOp := fun c a s => by
  unfold writeRequesterOp
  split
  · split
    · rfl
    · split <;> rfl
  · rfl

theorem writeProfileOp_ingress : CarryLeaves State.ingress writeProfileOp := fun c a s => by
  unfold writeProfileOp
  split
  · split
    · rfl
    · dsimp only
      split
      · rfl
      · exact (storeProfile_frame s _ _).ingress
  · rfl

theorem writeChainOp_ingress : CarryLeaves State.ingress writeChainOp := fun c a s => by
  unfold writeChainOp
  split
  · rfl
  · split <;> rfl

theorem writeBudgetOp_ingress : CarryLeaves State.ingress writeBudgetOp := fun c a s => by
  unfold writeBudgetOp
  split
  · rfl
  · split <;> simp

theorem findUnitOp_ingress : CarryLeaves State.ingress findUnitOp := fun c unit s => by
  unfold findUnitOp
  split <;> rfl

theorem slotWakeOp_ingress : CarryLeaves State.ingress slotWakeOp := fun c a s => by
  unfold slotWakeOp
  split
  · rfl
  · rfl
  · split
    · rfl
    split
    · rfl
    split <;> simp

theorem slotRestOp_ingress : CarryLeaves State.ingress slotRestOp := fun c n s => by
  unfold slotRestOp
  split
  · split <;> simp
  · rfl

theorem attentionOff_ingress (s : State) (n : Slot) : (s.attentionOff n).ingress = s.ingress := by
  unfold State.attentionOff
  split <;> simp [State.updateAtt]

theorem residencyOff_ingress (s : State) (n : Slot) : (s.residencyOff n).ingress = s.ingress := by
  unfold State.residencyOff
  split <;> simp [State.retargetOff, State.updateSlot]

/-- SLOT OFF in the five steps of R157. -/
theorem slotOffOp_ingress : CarryLeaves State.ingress slotOffOp := fun c n s => by
  have habandoned : (s.abandoned n).ingress = s.ingress := calc
    (s.abandoned n).ingress = (((s.abortQueued n).attentionOff n).removeEntry n).ingress := residencyOff_ingress _ n
    _ = ((s.abortQueued n).attentionOff n).ingress := (removeEntry_frame _ n).ingress
    _ = (s.abortQueued n).ingress := attentionOff_ingress _ n
    _ = s.ingress := (abortQueued_frame s n).ingress
  rw [slotOffOp_eq, finish_ingress, respond_ingress, (victimPass_frame s n _).ingress, habandoned]

theorem pinSlot_ingress (s : State) (n : Slot) : (s.pinSlot n).ingress = s.ingress := by
  dsimp only [State.pinSlot]
  split
  · exact gainReason_ingress _ n _ _
  · exact gainReason_ingress _ n _ _
  · rfl
  · split
    · exact cancelDrain_ingress _ n
    · rfl
  all_goals rfl

theorem unpinSlot_ingress (s : State) (n : Slot) : (s.unpinSlot n).ingress = s.ingress := by
  dsimp only [State.unpinSlot, State.updateSlot]
  split <;> simp

theorem clearSlot_ingress (s : State) (n : Slot) : (s.clearSlot n).ingress = s.ingress := by
  have hcleared : (s.cleared n).ingress = s.ingress := changeState_ingress s n .off []
  rw [clearSlot_eq]
  split <;> simp [hcleared]

theorem pinOp_ingress : CarryLeaves State.ingress pinOp := fun c n s => by
  unfold pinOp
  split <;> simp [pinSlot_ingress]

theorem unpinOp_ingress : CarryLeaves State.ingress unpinOp := fun c n s => by
  unfold unpinOp
  split <;> simp [unpinSlot_ingress]

theorem slotClearOp_ingress : CarryLeaves State.ingress slotClearOp := fun c n s => by
  unfold slotClearOp
  split <;> simp [clearSlot_ingress]

theorem readFaultOp_ingress : CarryLeaves State.ingress readFaultOp := fun c a s => by
  unfold readFaultOp
  split <;> rfl

theorem clearFaultOp_ingress : CarryLeaves State.ingress clearFaultOp := fun c serial s => by
  unfold clearFaultOp
  split
  · rfl
  · split <;> rfl

theorem restartOp_ingress : CarryLeaves State.ingress restartOp := fun c _ s => (restartOp_frame c s).ingress

/-! ## Every take -/

/-- What a take command carries out leaves ingress alone. -/
theorem exec_takeCommand_ingress (k : TakeKind) : ∃ (α : Type) (form : List Byte → Option α) (carry : Taken → α → State → State),
    (∀ s, exec (takeCommand k) s = take k form carry s) ∧ CarryLeaves State.ingress carry := by
  have hmanage : ∀ {α : Type} {op : Taken → α → State → State}, CarryLeaves State.ingress op →
      CarryLeaves State.ingress (manage op) := fun hop => hop.manage ingress_answerLeaves
  have hslot : ∀ {op : Taken → Slot → State → State}, CarryLeaves State.ingress op →
      CarryLeaves State.ingress (manage (withSlot op)) := fun hop => hmanage (hop.withSlot ingress_answerLeaves)
  have hreport : ∀ {α : Type} {contents : α → State → List Byte},
      CarryLeaves State.ingress (fun c a s => s.respond c .ok (contents a s)) := fun c a s => rfl
  cases k with
  | data op => cases op <;> exact ⟨_, _, _, fun _ => rfl, admitData_ingress⟩
  | readEntry => exact ⟨_, _, _, fun _ => rfl, hmanage readEntryOp_ingress⟩
  | writeUnit => exact ⟨_, _, _, fun _ => rfl, hmanage writeUnitOp_ingress⟩
  | writeRequester => exact ⟨_, _, _, fun _ => rfl, hmanage writeRequesterOp_ingress⟩
  | writeProfile => exact ⟨_, _, _, fun _ => rfl, hmanage writeProfileOp_ingress⟩
  | writeChain => exact ⟨_, _, _, fun _ => rfl, hmanage writeChainOp_ingress⟩
  | writeBudget => exact ⟨_, _, _, fun _ => rfl, hmanage writeBudgetOp_ingress⟩
  | findUnit => exact ⟨_, _, _, fun _ => rfl, hmanage findUnitOp_ingress⟩
  | readSlot => exact ⟨_, _, _, fun _ => rfl, hslot hreport⟩
  | readQueue => exact ⟨_, _, _, fun _ => rfl, hslot hreport⟩
  | readBudget => exact ⟨_, _, _, fun _ => rfl, hmanage hreport⟩
  | slotWake => exact ⟨_, _, _, fun _ => rfl, hmanage slotWakeOp_ingress⟩
  | slotRest => exact ⟨_, _, _, fun _ => rfl, hslot slotRestOp_ingress⟩
  | slotOff => exact ⟨_, _, _, fun _ => rfl, hslot slotOffOp_ingress⟩
  | pin => exact ⟨_, _, _, fun _ => rfl, hslot pinOp_ingress⟩
  | unpin => exact ⟨_, _, _, fun _ => rfl, hslot unpinOp_ingress⟩
  | slotClear => exact ⟨_, _, _, fun _ => rfl, hslot slotClearOp_ingress⟩
  | readFault => exact ⟨_, _, _, fun _ => rfl, hmanage readFaultOp_ingress⟩
  | clearFault => exact ⟨_, _, _, fun _ => rfl, hmanage clearFaultOp_ingress⟩
  | restart => exact ⟨_, _, _, fun _ => rfl, hmanage restartOp_ingress⟩

/-- A take that is due takes the head of ingress (R178). -/
theorem takeCommand_due {k : TakeKind} {frame : List Byte} {rest : List (List Byte)} {c : Taken} (hdue : s.takeDue c frame rest)
    (hkind : takeKindOf frame = some k) : ∃ t, exec (takeCommand k) s = .next t ∧ t.ingress = rest := by
  obtain ⟨α, form, carry, hexec, hcarry⟩ := exec_takeCommand_ingress k
  exact ⟨_, (hexec s).trans (take_due s hdue (Or.inr hkind) form carry),
    commonChecks_leaves hcarry ingress_answerLeaves c _ { s with ingress := rest }⟩

/-- Of ingress a take command takes no more than the head. -/
theorem takeCommand_ingress {k : TakeKind} (h : exec (takeCommand k) s = .next t) :
    t.ingress = s.ingress ∨ t.ingress = s.ingress.tail := by
  obtain ⟨α, form, carry, hexec, hcarry⟩ := exec_takeCommand_ingress k
  rw [hexec] at h
  rcases take_cases h with rfl | ⟨c, frame, -, rfl⟩
  · exact Or.inl rfl
  · exact Or.inr (commonChecks_leaves hcarry ingress_answerLeaves c _ { s with ingress := s.ingress.tail })

end Sys2Proof.Machine
end

section
/-! Ingress: every command (R177). -/

set_option Elab.async false

namespace Sys2Proof.Machine

variable {s t : State} {n : Slot}

/-! ## Events -/

theorem event_ingress {due : Bool} {effect : State → State} (h : event due s effect = .next t)
    (he : (effect s).ingress = s.ingress) : t.ingress = s.ingress := by
  injection h with h
  subst h
  split
  · rw [finish_ingress, he]
  · rfl

theorem quietEvent_ingress {due : Bool} {effect : State → State} (h : quietEvent due s effect = .next t)
    (he : (effect s).ingress = s.ingress) : t.ingress = s.ingress := by
  injection h with h
  subst h
  split
  · exact he
  · rfl

/-! ## The commands that are one event -/

theorem execTimeBaseAdvance_ingress (h : execTimeBaseAdvance s = .next t) : t.ingress = s.ingress := quietEvent_ingress h rfl

theorem execSupplyLowDebounceExpiry_ingress (h : execSupplyLowDebounceExpiry s = .next t) : t.ingress = s.ingress :=
  quietEvent_ingress h (takeSupplyLevel_ingress _)

theorem execEvaluation_ingress (h : execEvaluation s = .next t) : t.ingress = s.ingress := event_ingress h (evaluate_ingress _ _)

theorem execSelectionPass_ingress (h : execSelectionPass s = .next t) : t.ingress = s.ingress :=
  event_ingress h (selectVictims_ingress _ _)

theorem execStepCountdownExpiry_ingress (h : execStepCountdownExpiry n s = .next t) : t.ingress = s.ingress :=
  event_ingress h (askControl_ingress _ _ _)

theorem execIdleHoldExpiry_ingress (h : execIdleHoldExpiry n s = .next t) : t.ingress = s.ingress :=
  event_ingress h (startDrain_ingress _ _ _ _)

theorem execChainSelection_ingress (h : execChainSelection s = .next t) : t.ingress = s.ingress :=
  event_ingress h (select_ingress s)

theorem execCommandSent_ingress (h : execCommandSent s = .next t) : t.ingress = s.ingress := quietEvent_ingress h rfl

theorem execReplyStart_ingress (h : execReplyStart s = .next t) : t.ingress = s.ingress := quietEvent_ingress h rfl

theorem execReplyByteReceived_ingress (h : execReplyByteReceived s = .next t) : t.ingress = s.ingress := quietEvent_ingress h rfl

theorem execOutputChoice_ingress (h : execOutputChoice s = .next t) : t.ingress = s.ingress :=
  quietEvent_ingress h (choose_ingress s)

/-! ## The commands with an outcome of their own shape -/

/-- A frame joins at the tail of fewer than eight, or ingress stays as it is (R177). -/
theorem arrive_ingress (s : State) (frame : List Byte) : (s.arrive frame).ingress = s.ingress ∨
    (s.arrive frame).ingress = s.ingress ++ [frame] ∧ s.ingress.length < 8 := by
  by_cases hroom : s.ingress.length < 8
  · rw [arrive_room frame hroom]; exact Or.inr ⟨rfl, hroom⟩
  · rw [arrive_full frame (Nat.not_lt.mp hroom)]; exact Or.inl (raiseLink_ingress s _)

theorem receptionEnd_ingress (s : State) (bytes : List Byte) : (s.receptionEnd bytes).ingress = s.ingress ∨
    ∃ f, (s.receptionEnd bytes).ingress = s.ingress ++ [f] ∧ s.ingress.length < 8 := by
  cases hend : receive [] false bytes with
  | bad reopened => rw [receptionEnd_bad hend]; exact Or.inl (raiseLink_ingress _ _)
  | closed body =>
    cases hbody : requestContents body with
    | none => rw [receptionEnd_refused hend hbody]; exact Or.inl (raiseLink_ingress _ _)
    | some frame =>
      rw [receptionEnd_good hend hbody]
      exact (arrive_ingress { s with receiver := .idle } frame).imp id (fun hjoined => ⟨frame, hjoined⟩)

theorem execFrameArrival_ingress {bytes : List Byte} (h : execFrameArrival bytes s = .next t) :
    t.ingress = s.ingress ∨ ∃ f, t.ingress = s.ingress ++ [f] ∧ s.ingress.length < 8 := by
  injection h with h
  subst h
  split
  · exact receptionEnd_ingress s bytes
  · exact Or.inl rfl

theorem execStart_ingress (h : execStart s = .next t) : t.ingress = s.ingress := by
  injection h with h
  subst h
  split <;> rfl

theorem execSupplyLowChange_ingress {b : Bool} (h : execSupplyLowChange b s = .next t) : t.ingress = s.ingress := by
  refine quietEvent_ingress h ?_
  dsimp only
  split
  · split
    · rw [takeSupplyLevel_ingress]
    · rfl
  · rfl

theorem execAtnChange_ingress {active : Bool} (h : execAtnChange n active s = .next t) : t.ingress = s.ingress := by
  unfold execAtnChange at h
  split at h
  · injection h with h; subst h; rfl
  split at h
  · injection h with h; subst h
    rw [finish_ingress, lineChange_ingress]
  · injection h with h; subst h; rfl

theorem execAttentionHoldoffExpiry_ingress (h : execAttentionHoldoffExpiry n s = .next t) : t.ingress = s.ingress := by
  refine event_ingress h ?_
  dsimp only [State.updateAtt]
  split <;> simp

theorem execFrameReceptionStart_ingress (h : execFrameReceptionStart s = .next t) : t.ingress = s.ingress := by
  refine quietEvent_ingress h ?_
  split
  · rfl
  · exact raiseLink_ingress s _

theorem execRestartCompletion_ingress (h : execRestartCompletion s = .next t) : t.ingress = s.ingress := by
  injection h with h
  subst h
  split
  · exact (completeRestart_frame s _).ingress
  · rfl

theorem execLimitCountdownExpiry_ingress (h : execLimitCountdownExpiry n s = .next t) : t.ingress = s.ingress := by
  refine event_ingress h ?_
  dsimp only [State.updateSlot]
  split <;> simp

theorem execLifetimeExpiry_ingress {r : Requester} {tag : Byte} (h : execLifetimeExpiry r tag s = .next t) :
    t.ingress = s.ingress := by
  unfold execLifetimeExpiry at h
  split at h
  · injection h with h; subst h; rfl
  · refine event_ingress h ?_
    rw [(queueLeft_frame _ _).ingress, handOff_ingress, setQueue_ingress]

theorem execResponseTimeoutExpiry_ingress (h : execResponseTimeoutExpiry s = .next t) : t.ingress = s.ingress := by
  unfold execResponseTimeoutExpiry at h
  split at h
  · injection h with h; subst h; rfl
  · refine event_ingress h ?_
    split
    · rfl
    · exact attemptEnd_ingress s _ _
    · exact attemptEnd_ingress s _ _

theorem execReplyEnd_ingress {bytes : List Byte} (h : execReplyEnd bytes s = .next t) : t.ingress = s.ingress := by
  unfold execReplyEnd at h
  split at h
  · injection h with h; subst h; rfl
  · exact event_ingress h (attemptEnd_ingress s _ _)

theorem execTransmissionEnd_ingress (h : execTransmissionEnd s = .next t) : t.ingress = s.ingress := by
  injection h with h
  subst h
  split
  · rw [finish_ingress, responseSent_ingress]
  · exact noticeSent_ingress s
  · rfl

/-! ## Every command -/

/-- What a command can do to ingress: a frame joins at the tail, the head leaves, or a cold reset empties it. -/
def IngressMoves (c : Instr) (s t : State) : Prop :=
  t.ingress = s.ingress ∨ (∃ f, t.ingress = s.ingress ++ [f] ∧ s.ingress.length < 8 ∧ ∃ bytes, c = .frameArrival bytes) ∨
    (t.ingress = s.ingress.tail ∧ ∃ k, c = takeCommand k) ∨ (t.ingress = [] ∧ ∃ cause, c = .coldReset cause)

theorem takeCommand_moves {k : TakeKind} (h : exec (takeCommand k) s = .next t) : IngressMoves (takeCommand k) s t :=
  (takeCommand_ingress h).imp id (fun htail => Or.inr (Or.inl ⟨htail, k, rfl⟩))

theorem exec_moves (c : Instr) (h : exec c s = .next t) : IngressMoves c s t := by
  cases c with
  | coldReset cause =>
    injection h with h; subst h
    exact Or.inr (Or.inr (Or.inr ⟨rfl, cause, rfl⟩))
  | frameArrival bytes =>
    refine (execFrameArrival_ingress h).imp id (fun hjoined => Or.inl ?_)
    obtain ⟨f, htail, hroom⟩ := hjoined
    exact ⟨f, htail, hroom, bytes, rfl⟩
  | read => exact takeCommand_moves (k := .data .read) h
  | write => exact takeCommand_moves (k := .data .write) h
  | writePosted => exact takeCommand_moves (k := .data .writePosted) h
  | readEntry => exact takeCommand_moves (k := .readEntry) h
  | writeEntryUnit => exact takeCommand_moves (k := .writeUnit) h
  | writeEntryRequester => exact takeCommand_moves (k := .writeRequester) h
  | writeEntryProfile => exact takeCommand_moves (k := .writeProfile) h
  | writeEntryChain => exact takeCommand_moves (k := .writeChain) h
  | writeEntryBudget => exact takeCommand_moves (k := .writeBudget) h
  | findUnit => exact takeCommand_moves (k := .findUnit) h
  | readSlot => exact takeCommand_moves (k := .readSlot) h
  | readQueue => exact takeCommand_moves (k := .readQueue) h
  | readBudget => exact takeCommand_moves (k := .readBudget) h
  | slotWake => exact takeCommand_moves (k := .slotWake) h
  | slotRest => exact takeCommand_moves (k := .slotRest) h
  | slotOff => exact takeCommand_moves (k := .slotOff) h
  | pin => exact takeCommand_moves (k := .pin) h
  | unpin => exact takeCommand_moves (k := .unpin) h
  | slotClear => exact takeCommand_moves (k := .slotClear) h
  | readFault => exact takeCommand_moves (k := .readFault) h
  | clearFault => exact takeCommand_moves (k := .clearFault) h
  | restart => exact takeCommand_moves (k := .restart) h
  | start => exact Or.inl (execStart_ingress h)
  | timeBaseAdvance => exact Or.inl (execTimeBaseAdvance_ingress h)
  | supplyLowChange => exact Or.inl (execSupplyLowChange_ingress h)
  | supplyLowDebounceExpiry => exact Or.inl (execSupplyLowDebounceExpiry_ingress h)
  | atnChange => exact Or.inl (execAtnChange_ingress h)
  | attentionHoldoffExpiry => exact Or.inl (execAttentionHoldoffExpiry_ingress h)
  | frameReceptionStart => exact Or.inl (execFrameReceptionStart_ingress h)
  | restartCompletion => exact Or.inl (execRestartCompletion_ingress h)
  | evaluation => exact Or.inl (execEvaluation_ingress h)
  | selectionPass => exact Or.inl (execSelectionPass_ingress h)
  | stepCountdownExpiry => exact Or.inl (execStepCountdownExpiry_ingress h)
  | limitCountdownExpiry => exact Or.inl (execLimitCountdownExpiry_ingress h)
  | idleHoldExpiry => exact Or.inl (execIdleHoldExpiry_ingress h)
  | lifetimeExpiry => exact Or.inl (execLifetimeExpiry_ingress h)
  | chainSelection => exact Or.inl (execChainSelection_ingress h)
  | commandSent => exact Or.inl (execCommandSent_ingress h)
  | replyStart => exact Or.inl (execReplyStart_ingress h)
  | replyByteReceived => exact Or.inl (execReplyByteReceived_ingress h)
  | responseTimeoutExpiry => exact Or.inl (execResponseTimeoutExpiry_ingress h)
  | replyEnd => exact Or.inl (execReplyEnd_ingress h)
  | outputChoice => exact Or.inl (execOutputChoice_ingress h)
  | transmissionEnd => exact Or.inl (execTransmissionEnd_ingress h)

/-- Settles O13: arrivals by `frameArrival_good`, takes that are due by `takeCommand_due`, the reset value of ingress, and
`exec_moves` for every command. -/
theorem ingressIsFirstInFirstOut : Obligations.IngressIsFirstInFirstOut :=
  ⟨fun _ _ _ _ hr hv hclosed hgood => frameArrival_good hr hv hclosed hgood, fun _ _ _ _ _ hdue hkind => takeCommand_due hdue hkind,
    fun _ _ => ⟨_, rfl, rfl⟩, fun c _ _ h => exec_moves c h⟩

end Sys2Proof.Machine
end

section
/-! The output of the system link: the response run, and what OUTPUT_CHOICE chooses (R181). -/

set_option Elab.async false

namespace Sys2Proof.Machine

variable {s t : State}

/-! ## The choice -/

theorem choose_nothing (hresponses : s.responses = []) (hnotices : s.notices = []) : s.choose = s := by
  simp only [State.choose, hresponses, hnotices]

theorem choose_notice {x : Notice} {rest : List Notice} (h : s.notices = x :: rest)
    (hrun : s.responses = [] ∨ 8 ≤ s.responseRun) : s.choose = s.startNotice x := by
  cases hresponses : s.responses with
  | nil => simp only [State.choose, hresponses, h]
  | cons item items =>
    have hover : ¬ s.responseRun < 8 := Nat.not_lt.mpr (hrun.resolve_left (by simp [hresponses]))
    simp only [State.choose, hresponses, h, hover, if_false]

theorem choose_response {item : ResponseItem} {items : List ResponseItem} (h : s.responses = item :: items)
    (hrun : s.notices = [] ∨ s.responseRun < 8) : s.choose = s.startResponse item := by
  cases hnotices : s.notices with
  | nil => simp only [State.choose, h, hnotices]
  | cons x rest =>
    have hunder : s.responseRun < 8 := hrun.resolve_left (by simp [hnotices])
    simp only [State.choose, h, hnotices, hunder, if_true]

theorem startResponse_eq (s : State) (item : ResponseItem) : s.startResponse item = { s with
    transmitter := .response (s.itemFrame item), responseRun := if s.notices = [] then 0 else s.responseRun + 1 } := by
  simp only [State.startResponse, List.isEmpty_iff]

theorem itemFrame_immediate {i : Fin 16} {r : Response} (h : s.immediate[i] = .ready r) :
    s.itemFrame (.immediate i) = responseFrame (responseContents r) := by
  simp only [State.itemFrame, h]

theorem execOutputChoice_idle (hr : s.running = true) (ht : s.transmitter = .idle) : execOutputChoice s = .next s.choose := by
  simp only [execOutputChoice, quietEvent, hr, ht, beq_self_eq_true, Bool.and_self, if_true]

/-! ## The run at a restart -/

theorem execRestart_responseRun (h : execRestart s = .next t) : t.responseRun = s.responseRun := by
  have hanswer : AnswerLeaves State.responseRun := fun _ _ _ _ => rfl
  have hrestart : CarryLeaves State.responseRun restartOp := fun _ _ _ => rfl
  rcases take_cases h with rfl | ⟨c, frame, -, rfl⟩
  · rfl
  · exact commonChecks_leaves (hrestart.manage hanswer) hanswer c _ { s with ingress := s.ingress.tail }

theorem execRestartCompletion_responseRun (h : execRestartCompletion s = .next t) : t.responseRun = s.responseRun := by
  injection h with h
  subst h
  split
  · exact ((completeRestart_frame s _) .responseRun (by decide) : s.responseRun = _).symm
  · rfl

/-- Settles O53: `State.choose` by what waits and by the run; the reset value of the run, and the two commands of a restart. -/
theorem outputChoiceFollowsTable : Obligations.OutputChoiceFollowsTable := by
  refine ⟨fun s hr ht => ?_, fun cause s => ⟨_, rfl, rfl⟩, fun c s t hc h => ?_⟩
  · have hexec : exec .outputChoice s = .next s.choose := execOutputChoice_idle hr ht
    rw [hexec]
    refine ⟨fun hresponses hnotices => congrArg _ (choose_nothing hresponses hnotices),
      fun x rest hnotices hrun => congrArg _ (choose_notice hnotices hrun),
      fun r items hresponses hrun => congrArg _ ((choose_response hresponses hrun).trans (startResponse_eq s _)),
      fun i r items hresponses hready hrun => congrArg _ ?_⟩
    rw [choose_response hresponses hrun, startResponse_eq, itemFrame_immediate hready]
    rfl
  · rcases hc with rfl | rfl
    · exact execRestart_responseRun h
    · exact execRestartCompletion_responseRun h

end Sys2Proof.Machine
end

section
/-! Reset and the hold: the state that COLD_RESET leaves, and what every command does to a held hub (R190). -/

set_option Elab.async false

namespace Sys2Proof.Machine

variable {s : State}

/-! ## The cold reset -/

/-- The state of the hold that COLD_RESET begins in `s`: the reset state, but for the cause, the levels of the pins and the model's
own queue and counter. -/
def State.coldHeld (s : State) (cause : ResetCause) : State :=
  { State.reset with
    hub := .held cause, supplyLowPin := s.supplyLowPin, atnLines := s.atnLines, freeIndex := s.freeIndex, pending := s.pending }

theorem execColdReset_eq (cause : ResetCause) (s : State) : execColdReset cause s = .next (s.coldHeld cause) := rfl

theorem coldHeld_frame (s : State) (cause : ResetCause) :
    Unchanged [.hub, .supplyLowPin, .atnLines, .freeIndex, .pending] State.reset (s.coldHeld cause) := by
  intro f hf
  cases f with
  | hub | supplyLowPin | atnLines | freeIndex | pending => exact absurd (by decide) hf
  | _ => rfl

/-! ## The levels of the pins -/

/-- `s` with the level that `c` names on its pin; a command that names no pin moves none. -/
def State.pinsMoved (s : State) : Instr → State
  | .supplyLowChange b => { s with supplyLowPin := b }
  | .atnChange n b => s.pinMoved n b
  | _ => s

theorem setSupplyLowPin_frame (s : State) (b : Bool) : Unchanged [.supplyLowPin] s { s with supplyLowPin := b } :=
  (setPin_frame s b s.debounce).without .debounce rfl (by decide)

theorem pinsMoved_frame (s : State) (c : Instr) : Unchanged [.supplyLowPin, .atnLines] s (s.pinsMoved c) := by
  unfold State.pinsMoved
  split
  · exact (setSupplyLowPin_frame s _).mono (by decide)
  · exact (pinMoved_frame s _ _).mono (by decide)
  · exact Unchanged.refl _ s

theorem pinsMoved_supplyLowPin (s : State) (c : Instr) : (s.pinsMoved c).supplyLowPin = (match c with
    | .supplyLowChange b => b
    | _ => s.supplyLowPin) := by
  cases c <;> rfl

theorem pinsMoved_atnLines (s : State) (c : Instr) : (s.pinsMoved c).atnLines = (match c with
    | .atnChange n b => s.atnLines.set n b
    | _ => s.atnLines) := by
  cases c <;> rfl

/-! ## The commands in the hold -/

theorem running_held {cause : ResetCause} (h : s.hub = .held cause) : s.running = false := by
  rw [State.running, h]
  rfl

theorem event_held {due : Bool} {effect : State → State} (hdue : due = false) : event due s effect = .next s := by
  rw [hdue, event_notDue]

theorem quietEvent_held {due : Bool} {effect : State → State} (hdue : due = false) : quietEvent due s effect = .next s := by
  rw [hdue, quietEvent_notDue]

theorem take_held {α : Type} {k : TakeKind} {form : List Byte → Option α} {carry : Taken → α → State → State}
    (hr : s.running = false) : take k form carry s = .next s := by
  simp only [take, State.takeHead, hr, Bool.false_and]

theorem senses_held (n : Slot) (hr : s.running = false) : s.senses n = false := by
  simp only [State.senses, hr, Bool.false_and]

/-- The pin of a held hub changes, and no debounce is loaded. -/
theorem execSupplyLowChange_held (b : Bool) (hr : s.running = false) :
    execSupplyLowChange b s = .next { s with supplyLowPin := b } := by
  by_cases hb : s.supplyLowPin = b
  · subst hb
    exact quietEvent_held (bne_self_eq_false _)
  · have hdue : (s.supplyLowPin != b) = true := bne_iff_ne.mpr hb
    simp only [execSupplyLowChange, hdue, quietEvent_due, hr, Bool.false_eq_true, if_false]

theorem execSupplyLowDebounceExpiry_held (hr : s.running = false) : execSupplyLowDebounceExpiry s = .next s :=
  quietEvent_held (by rw [hr, Bool.false_and])

theorem execAttentionHoldoffExpiry_held (n : Slot) (hr : s.running = false) : execAttentionHoldoffExpiry n s = .next s :=
  event_held (by simp only [State.holdoffDue, hr, Bool.false_and])

theorem execFrameArrival_held (bytes : List Byte) (hr : s.running = false) : execFrameArrival bytes s = .next s :=
  quietEvent_held (by rw [hr, Bool.false_and])

theorem execFrameReceptionStart_held (hr : s.running = false) : execFrameReceptionStart s = .next s := quietEvent_held hr

theorem execEvaluation_held (hr : s.running = false) : execEvaluation s = .next s :=
  event_held (by simp only [State.evaluationOpen, hr, Bool.false_and])

theorem execSelectionPass_held (hr : s.running = false) : execSelectionPass s = .next s :=
  event_held (by simp only [State.passOpen, hr, Bool.false_and])

theorem execStepCountdownExpiry_held (n : Slot) (hr : s.running = false) : execStepCountdownExpiry n s = .next s :=
  event_held (by simp only [State.pollDue, hr, Bool.false_and])

theorem execLimitCountdownExpiry_held (n : Slot) (hr : s.running = false) : execLimitCountdownExpiry n s = .next s :=
  event_held (by simp only [State.limitDue, hr, Bool.false_and])

theorem execIdleHoldExpiry_held (n : Slot) (hr : s.running = false) : execIdleHoldExpiry n s = .next s :=
  event_held (by simp only [State.idleHoldRunning, hr, Bool.false_and])

theorem execChainSelection_held (hr : s.running = false) : execChainSelection s = .next s :=
  event_held (by simp only [State.selectionOpen, hr, Bool.false_and])

theorem execCommandSent_held (hr : s.running = false) : execCommandSent s = .next s :=
  quietEvent_held (inPhase_held .sending hr)

theorem execReplyStart_held (hr : s.running = false) : execReplyStart s = .next s :=
  quietEvent_held (inPhase_held .awaiting hr)

theorem execReplyByteReceived_held (hr : s.running = false) : execReplyByteReceived s = .next s :=
  quietEvent_held (inPhase_held .receiving hr)

theorem execOutputChoice_held (hr : s.running = false) : execOutputChoice s = .next s :=
  quietEvent_held (by rw [hr, Bool.false_and])

theorem execLifetimeExpiry_held (r : Requester) (tag : Byte) (hr : s.running = false) :
    execLifetimeExpiry r tag s = .next s := by
  unfold execLifetimeExpiry
  split
  · rfl
  · exact event_held hr

theorem execResponseTimeoutExpiry_held (hr : s.running = false) : execResponseTimeoutExpiry s = .next s := by
  unfold execResponseTimeoutExpiry
  split
  · rfl
  · exact event_held (by rw [hr, Bool.false_and])

theorem execReplyEnd_held (bytes : List Byte) (hr : s.running = false) : execReplyEnd bytes s = .next s := by
  unfold execReplyEnd
  split
  · rfl
  · exact event_held (inPhase_held .receiving hr)

theorem execTransmissionEnd_held (hr : s.running = false) : execTransmissionEnd s = .next s := by
  simp only [execTransmissionEnd, hr]

theorem execRestartCompletion_held (hr : s.running = false) : execRestartCompletion s = .next s := by
  simp only [execRestartCompletion, hr, Bool.false_and]

/-- A held hub takes no event but a reset or the start: of any other command only the level of a pin shows (R190). -/
theorem exec_held (hr : s.running = false) (c : Instr) (hreset : ∀ k, c ≠ .coldReset k) (hstart : c ≠ .start) :
    exec c s = .next (s.pinsMoved c) := by
  cases c with
  | coldReset k => exact absurd rfl (hreset k)
  | start => exact absurd rfl hstart
  | supplyLowChange b => exact execSupplyLowChange_held b hr
  | atnChange n b => exact atnChange_unsensed (senses_held n hr) b
  | timeBaseAdvance => exact execTimeBaseAdvance_held hr
  | supplyLowDebounceExpiry => exact execSupplyLowDebounceExpiry_held hr
  | attentionHoldoffExpiry n => exact execAttentionHoldoffExpiry_held n hr
  | frameArrival bytes => exact execFrameArrival_held bytes hr
  | frameReceptionStart => exact execFrameReceptionStart_held hr
  | read => exact take_held hr
  | write => exact take_held hr
  | writePosted => exact take_held hr
  | readEntry => exact take_held hr
  | writeEntryUnit => exact take_held hr
  | writeEntryRequester => exact take_held hr
  | writeEntryProfile => exact take_held hr
  | writeEntryChain => exact take_held hr
  | writeEntryBudget => exact take_held hr
  | findUnit => exact take_held hr
  | readSlot => exact take_held hr
  | readQueue => exact take_held hr
  | readBudget => exact take_held hr
  | slotWake => exact take_held hr
  | slotRest => exact take_held hr
  | slotOff => exact take_held hr
  | pin => exact take_held hr
  | unpin => exact take_held hr
  | slotClear => exact take_held hr
  | readFault => exact take_held hr
  | clearFault => exact take_held hr
  | restart => exact take_held hr
  | restartCompletion => exact execRestartCompletion_held hr
  | evaluation => exact execEvaluation_held hr
  | selectionPass => exact execSelectionPass_held hr
  | stepCountdownExpiry n => exact execStepCountdownExpiry_held n hr
  | limitCountdownExpiry n => exact execLimitCountdownExpiry_held n hr
  | idleHoldExpiry n => exact execIdleHoldExpiry_held n hr
  | lifetimeExpiry r tag => exact execLifetimeExpiry_held r tag hr
  | chainSelection => exact execChainSelection_held hr
  | commandSent => exact execCommandSent_held hr
  | replyStart => exact execReplyStart_held hr
  | replyByteReceived => exact execReplyByteReceived_held hr
  | responseTimeoutExpiry => exact execResponseTimeoutExpiry_held hr
  | replyEnd bytes => exact execReplyEnd_held bytes hr
  | outputChoice => exact execOutputChoice_held hr
  | transmissionEnd => exact execTransmissionEnd_held hr

/-- Settles O3: the hold that COLD_RESET begins is `State.coldHeld`, and `exec_held` says what every other command but START does in
it. -/
theorem coldResetHoldsHub : Obligations.ColdResetHoldsHub := by
  refine ⟨fun cause s => ⟨s.coldHeld cause, execColdReset_eq cause s, rfl, coldHeld_frame s cause, rfl, rfl, rfl, rfl⟩,
    fun cause s c hheld hreset hstart => ?_⟩
  exact ⟨s.pinsMoved c, exec_held (running_held hheld) c hreset hstart, pinsMoved_frame s c, pinsMoved_supplyLowPin s c,
    pinsMoved_atnLines s c⟩

end Sys2Proof.Machine
end

section
/-! One step: the command at the front of the queue, and the idling on an empty queue (log entry 4). -/

set_option Elab.async false

namespace Sys2Proof.Machine

variable {s : State}

/-- A step on an empty queue idles. -/
theorem step_nil (h : s.pending = []) : step s = .next s := by
  simp only [step, h]

/-- Settles O1, by the two forms of the queue: `step_cons` and `step_nil`. -/
theorem stepRunsFrontCommand : Obligations.StepRunsFrontCommand :=
  ⟨fun c rest s => step_cons s c rest, fun _ h => step_nil h⟩

end Sys2Proof.Machine
end
